-- ==== Sys2Proof/Word.lean ====
section
/-! DEFINITION. The one word type of the block: the byte (00_scope R9). -/

namespace Sys2Proof

/-- A byte: 8 bits, bit 7 the most significant (R9). Every field of a frame is one unsigned byte. -/
abbrev Byte := BitVec 8

end Sys2Proof
end

