-- ==== Sys2Proof/Config.lean ====
section
/-! DEFINITION. The static parameters of 00_scope R7: what the source leaves open and a model takes
as an argument. A configuration is plain data and is carried in the state (log entry 1). Its
well-formedness (R8, R31) is checked in Sys2Proof/Machine/ConfigCheck.lean. -/

namespace Sys2Proof

/-- The five parameters of the CRC-8 (R7, R140; decision D8). -/
structure CrcParams where
  /-- CRC_POLY, the x^8 term implicit. -/
  poly : Byte
  /-- CRC_INIT. -/
  init : Byte
  /-- CRC_REFIN: input bytes are processed LSB first. -/
  refIn : Bool
  /-- CRC_REFOUT: the final register is bit-reversed. -/
  refOut : Bool
  /-- CRC_XOROUT. -/
  xorOut : Byte
  deriving DecidableEq, Repr

/-- The byte values of the eight exception codes (R91; decision D12). -/
structure ExcCodes where
  wrongArgs : Byte
  improperEnv : Byte
  fAccessErr : Byte
  noImpl : Byte
  noPerm : Byte
  unknownCmd : Byte
  crcError : Byte
  genError : Byte
  deriving DecidableEq, Repr

/-- Permission levels, `ALL < ADMIN < SUPER` (R92). -/
inductive Perm where
  | all
  | admin
  | super
  deriving DecidableEq, Repr

/-- One command-table entry (R30). The handler is named by the entry's index (R175); what a handler
does is external. The sentinel's permission is never read (log entry 17). -/
structure Entry where
  code : Byte
  perm : Perm
  deriving DecidableEq, Repr

/-- RXQ_FULL_POLICY: what a push into a full RXQ does (R7, R110; decision D7). -/
inductive FullPolicy where
  | dropNew
  | blockProducer
  deriving DecidableEq, Repr

/-- PAYLOAD_ENDIAN (R7, R62): the block never reads it. -/
inductive Endian where
  | little
  | big
  deriving DecidableEq, Repr

/-- The static parameters (R7, R37). -/
structure Config where
  /-- ADDR_PRIMARY. -/
  addrPrimary : Byte
  /-- ADDR_SECONDARY. -/
  addrSecondary : Byte
  /-- ADDR_ASCII_ALIAS, accepted in binary mode like the other two (R163). -/
  addrAscii : Byte
  crc : CrcParams
  exc : ExcCodes
  /-- CMD_TABLE (R30-R32). -/
  cmdTable : List Entry
  /-- BUF_CAP. -/
  bufCap : Nat
  /-- QDEPTH. -/
  qDepth : Nat
  rxqFull : FullPolicy
  /-- PAYLOAD_ENDIAN: for handlers and whoever interprets payloads; no rule of the block reads it (R62). -/
  payloadEndian : Endian
  deriving DecidableEq, Repr

/-- RSP_MAX = 258 = 3 + 255: the maximum response length before the CRC byte (R7, R176). -/
def rspMax : Nat := 258

/-- The vector default of R7. DESIGN CHOICE, unsafe (log entries 1 and 2): the values are the spec's
own for its vectors, not the device's; QDEPTH and PAYLOAD_ENDIAN, which the vectors do not use, are
this model's. Only `State.reset` rests on it: every statement holds for every configuration. -/
def Config.vectorDefault : Config where
  addrPrimary := 0x01
  addrSecondary := 0x02
  addrAscii := 0x03
  crc := { poly := 0x07, init := 0x00, refIn := false, refOut := false, xorOut := 0x00 }
  exc := { wrongArgs := 0x01, improperEnv := 0x02, fAccessErr := 0x03, noImpl := 0x04,
           noPerm := 0x05, unknownCmd := 0x06, crcError := 0x07, genError := 0x08 }
  cmdTable := [⟨0x10, .all⟩, ⟨0x20, .admin⟩, ⟨0x30, .super⟩, ⟨0xFF, .all⟩]
  bufCap := 259
  qDepth := 512
  rxqFull := .dropNew
  payloadEndian := .little

end Sys2Proof
end

