-- ==== Sys2Proof/Machine/ConfigCheck.lean ====
section
/-! DEFINITION. The parameter constraints a model checks before it runs (00_scope R8, 10_state R31). -/

namespace Sys2Proof

/-- The level as the 2-bit value whose unsigned order is the order of the levels (R92). -/
def Perm.code : Perm → BitVec 2
  | .all => 0
  | .admin => 1
  | .super => 2

/-- The eight exception code values, in the order of R91. -/
def ExcCodes.values (x : ExcCodes) : List Byte :=
  [x.wrongArgs, x.improperEnv, x.fAccessErr, x.noImpl, x.noPerm, x.unknownCmd, x.crcError, x.genError]

/-- R31 on the codes of a table: not empty (a), the last is 0xFF (b), no other is (c), strictly
ascending (d). -/
def codesWf : List Byte → Bool
  | [] => false
  | [c] => c == 0xFF
  | c :: d :: rest => (c != 0xFF) && decide (c < d) && codesWf (d :: rest)

/-- R31: the command table is well formed. -/
def tableWf (t : List Entry) : Bool :=
  codesWf (t.map Entry.code)

/-- R8: the constraints on the parameters. -/
def Config.wf (c : Config) : Bool :=
  decide c.exc.values.Nodup && tableWf c.cmdTable && decide (259 ≤ c.bufCap) && decide (1 ≤ c.qDepth)

end Sys2Proof
end

