-- ==== Sys2Proof/Machine/Crc.lean ====
section
/-! DEFINITION. The CRC-8 over its five parameters (41_crc8 R140-R147). -/

namespace Sys2Proof.Machine

/-- `reverse8`: bit 7 and bit 0 change places, 6 and 1, 5 and 2, 4 and 3 (R140). -/
def reverse8 (b : Byte) : Byte :=
  ((b &&& 0x01) <<< 7) ||| ((b &&& 0x02) <<< 5) ||| ((b &&& 0x04) <<< 3) ||| ((b &&& 0x08) <<< 1) |||
  ((b &&& 0x10) >>> 1) ||| ((b &&& 0x20) >>> 3) ||| ((b &&& 0x40) >>> 5) ||| ((b &&& 0x80) >>> 7)

/-- One shift of the CRC register (R140, the body of the inner loop). -/
def crcShift (poly c : Byte) : Byte :=
  if c.msb then (c <<< 1) ^^^ poly else c <<< 1

/-- `n` shifts of the CRC register. -/
def crcShifts (poly : Byte) : Nat → Byte → Byte
  | 0, c => c
  | n + 1, c => crcShifts poly n (crcShift poly c)

/-- One byte into the CRC register: reflect, XOR, eight shifts (R140). -/
def crcByte (p : CrcParams) (c b : Byte) : Byte :=
  crcShifts p.poly 8 (c ^^^ (if p.refIn then reverse8 b else b))

/-- The end of the computation: reflect, XOR with CRC_XOROUT (R140). -/
def crcFinish (p : CrcParams) (c : Byte) : Byte :=
  (if p.refOut then reverse8 c else c) ^^^ p.xorOut

/-- `crc8(s)` (R140). -/
def crc8 (p : CrcParams) (s : List Byte) : Byte :=
  crcFinish p (s.foldl (crcByte p) p.init)

/-- `append_crc(r) = r ++ [crc8(r)]` (R146). -/
def appendCrc (p : CrcParams) (r : List Byte) : List Byte :=
  r ++ [crc8 p r]

end Sys2Proof.Machine
end

