-- ==== Sys2Proof/Machine/Operands.lean ====
section
/-! DEFINITION. The operand forms: the fields of a binary frame (30 R82-R84, 41 R143, R144), the
response shapes (43 R200, R201, R203), and an ASCII line (30 R89). -/

namespace Sys2Proof.Machine

/-- CR, the ASCII code point (R89, log entry 19). -/
def cr : Byte := 0x0D

/-- LF, the ASCII code point (R89, log entry 19). -/
def lf : Byte := 0x0A

/-- The fields of a binary frame (R82). -/
structure Frame where
  addr : Byte
  func : Byte
  data : List Byte
  crc : Byte
  deriving DecidableEq, Repr

/-- data_len as the byte that carries it (R82). -/
def lenByte (data : List Byte) : Byte := BitVec.ofNat 8 data.length

/-- The bytes the CRC covers: address, function code, data length, data (R143). -/
def Frame.covered (F : Frame) : List Byte :=
  F.addr :: F.func :: lenByte F.data :: F.data

/-- The whole frame, its CRC byte last (R82). -/
def Frame.bytes (F : Frame) : List Byte :=
  F.covered ++ [F.crc]

/-- `crc_ok` (R144): on the bytes exactly as received. -/
def Frame.crcOk (p : CrcParams) (F : Frame) : Bool :=
  crc8 p F.covered == F.crc

/-- The frame at the front of a byte sequence and the bytes after it; none while the sequence is
shorter than `4 + zext(s[2])` (R84, R117, R164). -/
def parseFrame : List Byte → Option (Frame × List Byte)
  | a :: f :: n :: rest =>
    match rest.drop n.toNat with
    | [] => none
    | c :: after => some (⟨a, f, rest.take n.toNat, c⟩, after)
  | _ => none

/-- `encode_ack(func)` at the address CUR_ADDR (R200): no CRC. -/
def encodeAck (addr func : Byte) : List Byte :=
  [addr, func, 0x01, 0x00]

/-- `encode_nack(func, exc)` at the address CUR_ADDR (R201): no CRC. -/
def encodeNack (addr func exc : Byte) : List Byte :=
  [addr, func, 0x02, 0x00, exc]

/-- `encode_resp(func, data)` at the address CUR_ADDR (R203), for at most 255 data bytes: no CRC. -/
def encodeResp (addr func : Byte) (data : List Byte) : List Byte :=
  addr :: func :: lenByte data :: data

/-- An ASCII line: its content, then CR LF (R89). -/
def lineBytes (content : List Byte) : List Byte :=
  content ++ [cr, lf]

/-- The content of a line, none where the sequence does not end with CR LF (R89, R122). -/
def parseLine (s : List Byte) : Option (List Byte) :=
  if 2 ≤ s.length ∧ s.drop (s.length - 2) = [cr, lf] then some (s.take (s.length - 2)) else none

end Sys2Proof.Machine
end

