-- ==== Sys2Proof/Machine/State.lean ====
section
/-! DEFINITION. The state of the block: 10_state R22 for each of the two instances, the levels and
ports of R33-R40 beside it, and the events still to come (log entry 4). -/

namespace Sys2Proof.Machine

/-- The two block instances (00 R4, 60 R236). -/
inductive Chan where
  | usb
  | mod
  deriving DecidableEq, Repr

/-- PHASE (R27): which kind of step is enabled. -/
inductive Phase where
  | recv
  | waitHandler
  | waitAscii
  | txDrain
  deriving DecidableEq, Repr

/-- FRAME_STATE (R39): the codec result of the last operation. -/
inductive FrameState where
  | processing
  | completeFrame
  | error
  deriving DecidableEq, Repr

/-- DISP_OUTCOME (R22, R39): the outcome of the last evaluation. -/
inductive DispOutcome where
  | none
  | processing
  | doneSilent
  | doneResponse
  | doneAscii
  | doneError
  deriving DecidableEq, Repr

/-- A liveness report (R40). -/
inductive Liveness where
  | alive
  | asleep
  deriving DecidableEq, Repr

/-- The model faults of 60 R233. Raising one is a next state with the mark set in FAULTS, in which the
instance takes no further step (R11, R29): the spec describes that state, so no step of this model
ends in a fault outcome (log entry 10). -/
inductive Fault where
  /-- F_ILLEGAL_OP: raised by OP_RESERVED (R121). Safe: the spec gives this mark and the stop. -/
  | illegalOp
  /-- F_BAD_PERM: raised by step 7 of the dispatch contract when SESSION_PERM = 3 (R172). Safe: as above. -/
  | badPerm
  /-- F_RSP_OVERSIZE: raised by a handler return of more than RSP_MAX bytes (R176). Safe: as above. -/
  | rspOversize
  /-- F_ASCII_OVERSIZE: raised by an Adapter return of more than RSP_MAX bytes (R127). Safe: as above. -/
  | asciiOversize
  deriving DecidableEq, Repr

/-- FAULTS (R22, R29): a set of fault marks, one membership bit for each. -/
structure Faults where
  illegalOp : Bool
  badPerm : Bool
  rspOversize : Bool
  asciiOversize : Bool
  deriving DecidableEq, Repr

/-- The empty set of faults. -/
def Faults.empty : Faults := ⟨false, false, false, false⟩

/-- Why a step has no meaning. -/
inductive Refusal where
  /-- An instruction that has no meaning yet; raised by no arm of this model. Safe. -/
  | notModelled (mnemonic : String)
  /-- Raised by every step of a state whose configuration breaks a constraint of 00 R8 (or of 10 R31):
  "A configuration that violates one is refused". Safe. -/
  | badConfig
  /-- Raised by RSP_RESP with more than 255 data bytes ("a model refuses the call", 43 R203, 93 U15),
  and by a FUNC_* or ASCII_LINE term whose bytes BUF could never hold (no such frame or line exists,
  30 R82, 40 R115; log entry 22). Safe. -/
  | notEncodable
  deriving DecidableEq, Repr

/-- One request at the handler port (42 R175): the entry index, the frame with its CRC byte, CUR_ADDR. -/
structure HandlerReq where
  entry : Nat
  request : List Byte
  addr : Byte
  deriving DecidableEq, Repr

/-- What happens at the ports of one instance (10 R38): each is one step (00 R3). -/
inductive PortEvent where
  /-- The RX producer offers a byte (40 R110). -/
  | rxPush (b : Byte)
  /-- A push that found RXQ full under BLOCK_PRODUCER completes (40 R110, log entry 6). -/
  | rxResume
  /-- The engine takes an operation (40 R112): for kind 00 the data byte is the one popped from RXQ. -/
  | op (word : BitVec 10)
  /-- A request at the clear port (R38). -/
  | clear
  /-- The one-shot start input (R26). -/
  | start
  /-- cfg_write of CRC_CHECK_EN (R33). -/
  | cfgWrite (enable : Bool)
  /-- The ASCII_MODE level changes (R34). -/
  | setAsciiMode (level : Bool)
  /-- The SESSION_PERM level changes (R36). -/
  | setSessionPerm (level : BitVec 2)
  /-- The handler returns to the `call`-th request (42 R176; log entry 8). -/
  | handlerRsp (call : Nat) (r : List Byte)
  /-- The ASCII Adapter returns to the `call`-th line (40 R127; log entry 8). -/
  | asciiRsp (call : Nat) (r : List Byte)
  /-- The transmit port accepts a byte (43 R206). -/
  | txAccept
  deriving DecidableEq, Repr

/-- One event of the environment or one choice of an agent. -/
inductive Event where
  /-- Full device reset: every instance (70 R260). -/
  | reset
  /-- The shared SYS_ASLEEP level changes (R35). -/
  | setAsleep (level : Bool)
  /-- Something happens at a port of one instance. -/
  | port (c : Chan) (e : PortEvent)
  deriving DecidableEq, Repr

/-- One block instance: the state of R22, and what its ports hold. -/
structure Inst where
  /-- RXQ, the head first. -/
  rxq : List Byte
  /-- BUF[0..BUF_LEN): BUF_LEN is its length; no byte stands above it (R23, R24). -/
  buf : List Byte
  /-- CUR_ADDR (R25). -/
  curAddr : Byte
  /-- STARTED (R26). -/
  started : Bool
  /-- PHASE (R27). -/
  phase : Phase
  /-- RSP (R28). -/
  rsp : List Byte
  /-- RSP_POS (R28). -/
  rspPos : Nat
  /-- CRC_CHECK_EN (R33). -/
  crcCheckEn : Bool
  /-- FRAME_STATE (R39). -/
  frameState : FrameState
  /-- DISP_OUTCOME (R39). -/
  dispOutcome : DispOutcome
  /-- FAULTS (R29). -/
  faults : Faults
  /-- Requests pending at the clear port (R112, R120; log entry 7). -/
  clearReqs : Nat
  /-- Bytes whose push has not completed, the oldest first (R110, BLOCK_PRODUCER; log entry 6). -/
  held : List Byte
  /-- The ASCII_MODE level (R34). -/
  asciiMode : Bool
  /-- The SESSION_PERM level (R36). -/
  sessionPerm : BitVec 2
  /-- The bytes the TX port accepted, the oldest first (R206; log entry 9). -/
  tx : List Byte
  /-- The liveness reports made, the oldest first (R40; log entry 9). -/
  live : List Liveness
  /-- The requests made at handler_req, the oldest first (R175; log entry 9). -/
  handlerReqs : List HandlerReq
  /-- The lines handed to ascii_req, the oldest first (R126; log entry 9). -/
  asciiReqs : List (List Byte)
  deriving DecidableEq, Repr

/-- The whole machine. -/
structure State where
  /-- The static parameters (R37): no step changes them (log entry 1). -/
  cfg : Config
  /-- The shared SYS_ASLEEP level (R35). -/
  sysAsleep : Bool
  /-- Instance USB (R4). -/
  usb : Inst
  /-- Instance MOD (R4). -/
  mod : Inst
  /-- The instance the present event belongs to (log entry 21). -/
  active : Chan
  /-- The events still to come, the next one first (log entry 4). -/
  inputs : List Event
  deriving DecidableEq, Repr

/-- One instance after reset (70 R260), its levels at 0 (log entry 3), nothing yet seen at its ports. -/
def Inst.initial (cfg : Config) : Inst where
  rxq := []
  buf := []
  curAddr := cfg.addrPrimary
  started := false
  phase := .recv
  rsp := []
  rspPos := 0
  crcCheckEn := true
  frameState := .processing
  dispOutcome := .none
  faults := Faults.empty
  clearReqs := 0
  held := []
  asciiMode := false
  sessionPerm := 0
  tx := []
  live := []
  handlerReqs := []
  asciiReqs := []

/-- The machine after reset under a configuration, with no event to come. -/
def State.initial (cfg : Config) : State where
  cfg := cfg
  sysAsleep := false
  usb := Inst.initial cfg
  mod := Inst.initial cfg
  active := .usb
  inputs := []

/-- The machine right after reset (70 R260), under the vector default (log entry 1). -/
def State.reset : State := State.initial Config.vectorDefault

end Sys2Proof.Machine
end

