-- ==== Sys2Proof/Machine/Flags.lean ====
section
/-! DEFINITION. The flag computations: codec_state (40 R116, R117, R122), which FRAME_STATE shows, and
the set FAULTS (10 R29). -/

namespace Sys2Proof.Machine

/-- `codec_state(s, 0)` (R117). -/
def codecBinary : List Byte → FrameState
  | a :: f :: n :: rest =>
    if (a :: f :: n :: rest).length < 4 + n.toNat then .processing else .completeFrame
  | _ => .processing

/-- `codec_state(s, 1)` (R122). -/
def codecAscii (s : List Byte) : FrameState :=
  if (parseLine s).isSome then .completeFrame else .processing

/-- `codec_state(s, ASCII_MODE)` (R116). -/
def codecState (ascii : Bool) (s : List Byte) : FrameState :=
  if ascii then codecAscii s else codecBinary s

/-- FAULTS with one mark added (R29, R233). -/
def Faults.add (f : Fault) (x : Faults) : Faults :=
  match f with
  | .illegalOp => { x with illegalOp := true }
  | .badPerm => { x with badPerm := true }
  | .rspOversize => { x with rspOversize := true }
  | .asciiOversize => { x with asciiOversize := true }

/-- Whether a mark is in FAULTS. -/
def Faults.has (f : Fault) (x : Faults) : Bool :=
  match f with
  | .illegalOp => x.illegalOp
  | .badPerm => x.badPerm
  | .rspOversize => x.rspOversize
  | .asciiOversize => x.asciiOversize

end Sys2Proof.Machine
end

