-- ==== Sys2Proof/Machine/Ops.lean ====
section
/-! DEFINITION. The named operations on one instance that the steps share: clearing BUF, appending,
raising a fault, the NACK entry of the error path and the return from it, the table lookup, the
dispatch contract, and the port transactions (files 40, 42, 43, 60). -/

namespace Sys2Proof.Machine

/-! ### Reports, faults, outcomes -/

/-- `report_live(l)` (R40). -/
def Inst.report (l : Liveness) (t : Inst) : Inst :=
  { t with live := t.live ++ [l] }

/-- `raise Fault(f)` (R11, R233): the mark is set, nothing else changes. -/
def Inst.raise (f : Fault) (t : Inst) : Inst :=
  { t with faults := t.faults.add f }

/-- PROCESSING (R12): BUF is kept. -/
def Inst.processing (t : Inst) : Inst :=
  { t with dispOutcome := .processing }

/-- DONE_SILENT of an evaluation (R12, R161, R163): BUF is cleared, nothing is sent. -/
def Inst.doneSilent (t : Inst) : Inst :=
  { t with buf := [], dispOutcome := .doneSilent }

/-- DONE_ERROR (R12, R115, R120): BUF is cleared, FRAME_STATE is Error, nothing is sent. -/
def Inst.doneError (t : Inst) : Inst :=
  { t with buf := [], frameState := .error, dispOutcome := .doneError }

/-! ### Appending -/

/-- Append a byte (R114) and show the codec's result (R116). -/
def Inst.accumulate (b : Byte) (t : Inst) : Inst :=
  { t with buf := t.buf ++ [b], frameState := codecState t.asciiMode (t.buf ++ [b]) }

/-! ### Transmit hand-off, and the error path: its entry and its return -/

/-- Hand a complete response to the transmitter (R177, R202, R127). -/
def Inst.startTx (r : List Byte) (t : Inst) : Inst :=
  { t with rsp := r, rspPos := 0, phase := .txDrain }

/-- `respond_nack(func, exc)` (R202): taking the error path (R227). CUR_ADDR has been latched before. -/
def Inst.respondNack (cfg : Config) (func exc : Byte) (t : Inst) : Inst :=
  { t.startTx (appendCrc cfg.crc (encodeNack t.curAddr func exc)) with
    buf := [], dispOutcome := .doneResponse }

/-- One byte leaves at the TX port (R206): the return of every response, the error path's included,
is PHASE = RECV after the last byte (R228). At an RSP_POS past the end, which no run reaches, there
is no byte to offer and nothing changes. -/
def Inst.txByte (t : Inst) : Inst :=
  match t.rsp[t.rspPos]? with
  | none => t
  | some b =>
    if t.rspPos + 1 = t.rsp.length then
      { t with tx := t.tx ++ [b], rsp := [], rspPos := 0, phase := .recv }
    else
      { t with tx := t.tx ++ [b], rspPos := t.rspPos + 1 }

/-! ### The command table and the permission gate -/

/-- The scan of R168 from entry `i` on: it stops at the first entry whose code is at least `f`. -/
def lookupFrom (f : Byte) (i : Nat) : List Entry → Option (Nat × Perm)
  | [] => none
  | e :: rest =>
    if f ≤ e.code then
      if e.code = f ∧ e.code ≠ 0xFF then some (i, e.perm) else none
    else lookupFrom f (i + 1) rest

/-- `lookup(f)` (R168): HIT(i) with the entry's permission, or none for MISS. -/
def lookup (t : List Entry) (f : Byte) : Option (Nat × Perm) :=
  lookupFrom f 0 t

/-- Whether a byte is one of the three accepted addresses (R66, R163). -/
def accepts (cfg : Config) (a : Byte) : Bool :=
  a == cfg.addrPrimary || a == cfg.addrSecondary || a == cfg.addrAscii

/-! ### The dispatch contract -/

/-- Step 8 (R173, R175): the request goes out, BUF is cleared, the instance waits. -/
def Inst.callHandler (i : Nat) (request : List Byte) (t : Inst) : Inst :=
  { t with handlerReqs := t.handlerReqs ++ [⟨i, request, t.curAddr⟩], buf := [],
           dispOutcome := .none, phase := .waitHandler }

/-- `call_ascii(L)` for the line in BUF (R124, R126). -/
def Inst.callAscii (t : Inst) : Inst :=
  { t with asciiReqs := t.asciiReqs ++ [t.buf], buf := [], dispOutcome := .doneAscii,
           phase := .waitAscii }

/-- Step 5 (R166): latch the current address. -/
def Inst.latch (a : Byte) (t : Inst) : Inst :=
  { t with curAddr := a }

/-- Step 7 (R171, R172) and step 8 for HIT(i) with permission `p`. -/
def Inst.gate (cfg : Config) (F : Frame) (i : Nat) (p : Perm) (t : Inst) : Inst :=
  if t.sessionPerm = 3 then t.raise .badPerm
  else if t.sessionPerm < p.code then t.respondNack cfg F.func cfg.exc.noPerm
  else t.callHandler i F.bytes

/-- Steps 5a to 8 (R167, R168-R173), CUR_ADDR latched. -/
def Inst.checkAndRun (cfg : Config) (F : Frame) (t : Inst) : Inst :=
  if t.crcCheckEn && !F.crcOk cfg.crc then t.respondNack cfg F.func cfg.exc.crcError
  else match lookup cfg.cmdTable F.func with
    | none => t.respondNack cfg F.func cfg.exc.unknownCmd
    | some (i, p) => t.gate cfg F i p

/-- Steps 3 to 8 on BUF in binary mode (R163, R164, R166). An empty BUF, on which no evaluation is ever
made, is short. -/
def Inst.evaluateBinary (cfg : Config) (t : Inst) : Inst :=
  match t.buf with
  | [] => t.processing
  | a :: _ =>
    if !accepts cfg a then t.doneSilent
    else match parseFrame t.buf with
      | none => t.processing
      | some (F, _) => (t.latch F.addr).checkAndRun cfg F

/-- `evaluate()` (R160): the dispatch contract on BUF. -/
def Inst.evaluate (cfg : Config) (asleep : Bool) (t : Inst) : Inst :=
  if asleep then t.doneSilent
  else if t.asciiMode then
    if codecAscii t.buf = .completeFrame then t.callAscii else t.processing
  else t.evaluateBinary cfg

/-! ### Port transactions -/

/-- `handler_rsp(r)` (R176, R177), the step enabled in WAIT_HANDLER. -/
def Inst.handlerReturn (cfg : Config) (r : List Byte) (t : Inst) : Inst :=
  if rspMax < r.length then t.raise .rspOversize
  else if r = [] then { t with dispOutcome := .doneSilent, phase := .recv }
  else { t.startTx (appendCrc cfg.crc r) with dispOutcome := .doneResponse }

/-- `ascii_rsp(r)` (R127), the step enabled in WAIT_ASCII. -/
def Inst.asciiReturn (r : List Byte) (t : Inst) : Inst :=
  if rspMax < r.length then t.raise .asciiOversize
  else if r = [] then { t with phase := .recv }
  else t.startTx r

/-- `rx_push(b)` (R110): accepted whatever STARTED, PHASE and FAULTS are. -/
def Inst.rxPush (cfg : Config) (b : Byte) (t : Inst) : Inst :=
  match cfg.rxqFull with
  | .dropNew => if t.rxq.length < cfg.qDepth then { t with rxq := t.rxq ++ [b] } else t
  | .blockProducer =>
    if t.rxq.length < cfg.qDepth ∧ t.held = [] then { t with rxq := t.rxq ++ [b] }
    else { t with held := t.held ++ [b] }

/-- The oldest blocked push completes once RXQ has room (R110). -/
def Inst.rxResume (cfg : Config) (t : Inst) : Inst :=
  match t.held with
  | [] => t
  | b :: rest => if t.rxq.length < cfg.qDepth then { t with rxq := t.rxq ++ [b], held := rest } else t

/-- A request at the clear port (R38, R112). -/
def Inst.clearRequest (t : Inst) : Inst :=
  { t with clearReqs := t.clearReqs + 1 }

/-- start (R26, R263). A faulted instance takes no step (R233, log entry 10). -/
def Inst.start (t : Inst) : Inst :=
  if t.faults = Faults.empty then { t with started := true } else t

/-- cfg_write (R33, R38). A faulted instance takes no step (R233, log entry 10). -/
def Inst.cfgWrite (enable : Bool) (t : Inst) : Inst :=
  if t.faults = Faults.empty then { t with crcCheckEn := enable } else t

/-- Reset of one instance (R260): the elements of R22, the pending clear request, and a blocked push
(log entry 6). The levels are the environment's; what the ports have already seen stays seen. -/
def Inst.doReset (cfg : Config) (t : Inst) : Inst :=
  { t with rxq := [], buf := [], curAddr := cfg.addrPrimary, started := false, phase := .recv,
           rsp := [], rspPos := 0, crcCheckEn := true, frameState := .processing,
           dispOutcome := .none, faults := Faults.empty, clearReqs := 0, held := [] }

/-! ### The machine around one instance -/

/-- The instance on a channel. -/
def State.inst (s : State) : Chan → Inst
  | .usb => s.usb
  | .mod => s.mod

/-- The machine with one instance replaced. -/
def State.setInst (s : State) (c : Chan) (t : Inst) : State :=
  match c with
  | .usb => { s with usb := t }
  | .mod => { s with mod := t }

/-- The instance the present event belongs to. -/
def State.act (s : State) : Inst := s.inst s.active

/-- The machine with the active instance replaced. -/
def State.setAct (s : State) (t : Inst) : State := s.setInst s.active t

/-- Full device reset (R260): every instance. -/
def State.doReset (s : State) : State :=
  { s with usb := s.usb.doReset s.cfg, mod := s.mod.doReset s.cfg }

/-- Present complete bytes to the dispatch contract (R160): they stand in BUF and `evaluate` runs. Bytes
that BUF cannot hold never stand there (R115). -/
def State.present (bytes : List Byte) (s : State) : Host.Outcome State Fault Refusal :=
  if bytes.length ≤ s.cfg.bufCap then
    .next (s.setAct (Inst.evaluate s.cfg s.sysAsleep { s.act with buf := bytes }))
  else .refused .notEncodable

/-- Present a binary request frame; data_len carries at most 255 data bytes (R82). -/
def State.presentFrame (F : Frame) (s : State) : Host.Outcome State Fault Refusal :=
  if F.data.length ≤ 255 then s.present F.bytes else .refused .notEncodable

/-- A handler return on the active instance (R176). -/
def State.answer (r : List Byte) (s : State) : State :=
  s.setAct (s.act.handlerReturn s.cfg r)

end Sys2Proof.Machine
end

