-- ==== Sys2Proof/Machine/AsciiLine.lean ====
section
/-! DEFINITION. The ASCII line (40_byte_queue_framer R122-R126): a complete line presented to the
dispatch contract, which hands it whole to the ASCII Adapter. -/

namespace Sys2Proof.Machine

/-- ASCII_LINE (R122, R126). -/
def execAsciiLine (content : List Byte) (s : State) : Host.Outcome State Fault Refusal :=
  s.present (lineBytes content)

end Sys2Proof.Machine
end

