-- ==== Sys2Proof/Machine/EngineOps.lean ====
section
/-! DEFINITION. The engine operations (40_byte_queue_framer R113-R121). R112, which says when an
operation may be taken, and the pop of RXQ are in Sys2Proof/Machine/Select.lean. -/

namespace Sys2Proof.Machine

/-- OP_BYTE on one instance (R113, R115). -/
def Inst.opByte (cfg : Config) (asleep : Bool) (b : Byte) (t : Inst) : Inst :=
  let t := t.report .alive
  if t.buf.length = cfg.bufCap then t.doneError
  else (t.accumulate b).evaluate cfg asleep

/-- OP_TIMEOUT on one instance (R118). -/
def Inst.opTimeout (t : Inst) : Inst :=
  { t.report .asleep with buf := [], frameState := .processing, dispOutcome := .none }

/-- OP_CLEAR on one instance (R120): the pending request is consumed. -/
def Inst.opClear (t : Inst) : Inst :=
  { t.doneError with clearReqs := t.clearReqs - 1 }

/-- OP_BYTE (R113). -/
def execOpByte (b : Byte) (s : State) : Host.Outcome State Fault Refusal :=
  .next (s.setAct (s.act.opByte s.cfg s.sysAsleep b))

/-- OP_TIMEOUT (R118). -/
def execOpTimeout (s : State) : Host.Outcome State Fault Refusal :=
  .next (s.setAct s.act.opTimeout)

/-- OP_CLEAR (R120). -/
def execOpClear (s : State) : Host.Outcome State Fault Refusal :=
  .next (s.setAct s.act.opClear)

/-- OP_RESERVED (R121): F_ILLEGAL_OP, and no other state changes. -/
def execOpReserved (s : State) : Host.Outcome State Fault Refusal :=
  .next (s.setAct (s.act.raise .illegalOp))

end Sys2Proof.Machine
end

