-- ==== Sys2Proof/Machine/FuncCodes.lean ====
section
/-! DEFINITION. The function codes (42_dispatcher R179-R181): a complete binary request frame presented
to the dispatch contract of R160. OP_BYTE brings a frame there byte by byte. -/

namespace Sys2Proof.Machine

/-- FUNC_0x10 (R179). -/
def execFunc10 (addr : Byte) (data : List Byte) (crc : Byte) (s : State) :
    Host.Outcome State Fault Refusal :=
  s.presentFrame ⟨addr, 0x10, data, crc⟩

/-- FUNC_SENTINEL (R180). -/
def execFuncSentinel (addr : Byte) (data : List Byte) (crc : Byte) (s : State) :
    Host.Outcome State Fault Refusal :=
  s.presentFrame ⟨addr, 0xFF, data, crc⟩

/-- FUNC_TABLE (R181). -/
def execFuncTable (addr func : Byte) (data : List Byte) (crc : Byte) (s : State) :
    Host.Outcome State Fault Refusal :=
  s.presentFrame ⟨addr, func, data, crc⟩

end Sys2Proof.Machine
end

