-- ==== Sys2Proof/Machine/Responses.lean ====
section
/-! DEFINITION. The response shapes (43_response_framing R200-R203) as a handler returns them: step 9
of the dispatch contract appends the CRC and hands the frame to TX (42 R176, R177). -/

namespace Sys2Proof.Machine

/-- RSP_ACK (R200). -/
def execRspAck (addr func : Byte) (s : State) : Host.Outcome State Fault Refusal :=
  .next (s.answer (encodeAck addr func))

/-- RSP_NACK (R201): the exception byte is not checked. -/
def execRspNack (addr func exc : Byte) (s : State) : Host.Outcome State Fault Refusal :=
  .next (s.answer (encodeNack addr func exc))

/-- RSP_RESP (R203): more than 255 data bytes cannot be encoded and the call is refused (93 U15). -/
def execRspResp (addr func : Byte) (data : List Byte) (s : State) : Host.Outcome State Fault Refusal :=
  if data.length ≤ 255 then .next (s.answer (encodeResp addr func data)) else .refused .notEncodable

end Sys2Proof.Machine
end

