-- ==== Sys2Proof/Syntax.lean ====
section
/-! DEFINITION. The instructions: one constructor per row of spec/opcode_table.json, and the port at
which each kind is met. The table has three kinds of row: operation words of the engine (30 R80),
binary request frames by function code (30 R82), and what the block is handed back or routes on
(response shapes, 30 R86-R88; ASCII lines, 30 R89). -/

namespace Sys2Proof

/-- The instructions of the block, one constructor per row of the opcode table. -/
inductive Instr where
  /-- OP_BYTE (R113): append the byte popped from RXQ and evaluate. -/
  | opByte (b : Byte)
  /-- OP_TIMEOUT (R118): the receive timed out with no new data. -/
  | opTimeout
  /-- OP_CLEAR (R120): explicit error. -/
  | opClear
  /-- OP_RESERVED (R121): operation kind 11. -/
  | opReserved
  /-- FUNC_0x10 (R179): the binary request frame `[addr, 0x10, |data|] ++ data ++ [crc]`. -/
  | func10 (addr : Byte) (data : List Byte) (crc : Byte)
  /-- FUNC_SENTINEL (R180): the binary request frame with function code 0xFF. -/
  | funcSentinel (addr : Byte) (data : List Byte) (crc : Byte)
  /-- FUNC_TABLE (R181): the binary request frame with any other function code. -/
  | funcTable (addr func : Byte) (data : List Byte) (crc : Byte)
  /-- RSP_ACK (R200): the response `[addr, func, 0x01, 0x00]`, its CRC appended by the block. -/
  | rspAck (addr func : Byte)
  /-- RSP_NACK (R201): the response `[addr, func, 0x02, 0x00, exc]`, its CRC appended by the block. -/
  | rspNack (addr func exc : Byte)
  /-- RSP_RESP (R203): the response `[addr, func, |data|] ++ data`, its CRC appended by the block. -/
  | rspResp (addr func : Byte) (data : List Byte)
  /-- ASCII_LINE (R122): the line `content ++ [CR, LF]`. -/
  | asciiLine (content : List Byte)
  deriving DecidableEq, Repr

/-- Where an instruction's bytes are met. The same bytes mean different instructions at different
ports (a request header and a response header are not told apart by their bits, log entry 15). -/
inductive Port where
  /-- The engine's operation word, as two bytes, the kind in the first (R80). -/
  | opWord
  /-- The frame buffer in binary mode (R82). -/
  | request
  /-- The frame buffer in ASCII mode (R89). -/
  | line
  /-- The handler's return, without a CRC byte (R176). -/
  | response
  deriving DecidableEq, Repr

/-- The port at which an instruction is met. -/
def Instr.port : Instr → Port
  | .opByte _ => .opWord
  | .opTimeout => .opWord
  | .opClear => .opWord
  | .opReserved => .opWord
  | .func10 _ _ _ => .request
  | .funcSentinel _ _ _ => .request
  | .funcTable _ _ _ _ => .request
  | .rspAck _ _ => .response
  | .rspNack _ _ _ => .response
  | .rspResp _ _ _ => .response
  | .asciiLine _ => .line

end Sys2Proof
end

