-- ==== Sys2Proof/Machine/Dispatch.lean ====
section
/-! DEFINITION. One arm per constructor of Instr. -/

namespace Sys2Proof.Machine

def exec (i : Instr) (s : State) : Host.Outcome State Fault Refusal :=
  match i with
  | .opByte b => Sys2Proof.Machine.execOpByte b s
  | .opTimeout => Sys2Proof.Machine.execOpTimeout s
  | .opClear => Sys2Proof.Machine.execOpClear s
  | .opReserved => Sys2Proof.Machine.execOpReserved s
  | .func10 addr data crc => Sys2Proof.Machine.execFunc10 addr data crc s
  | .funcSentinel addr data crc => Sys2Proof.Machine.execFuncSentinel addr data crc s
  | .funcTable addr func data crc => Sys2Proof.Machine.execFuncTable addr func data crc s
  | .rspAck addr func => Sys2Proof.Machine.execRspAck addr func s
  | .rspNack addr func exc => Sys2Proof.Machine.execRspNack addr func exc s
  | .rspResp addr func data => Sys2Proof.Machine.execRspResp addr func data s
  | .asciiLine content => Sys2Proof.Machine.execAsciiLine content s

end Sys2Proof.Machine
end

