-- ==== Sys2Proof/WellFormed.lean ====
section
/-! DEFINITION. Which terms of `Instr` stand for an instruction: the checks its encoding forces. -/

namespace Sys2Proof

/-- A term stands for an instruction: data_len is one byte, so at most 255 data bytes (R82, R83, R203),
and FUNC_TABLE is matched only when FUNC_0x10 and FUNC_SENTINEL are not (R181). -/
def Instr.wf : Instr → Bool
  | .opByte _ => true
  | .opTimeout => true
  | .opClear => true
  | .opReserved => true
  | .func10 _ data _ => decide (data.length ≤ 255)
  | .funcSentinel _ data _ => decide (data.length ≤ 255)
  | .funcTable _ func data _ => decide (data.length ≤ 255) && (func != 0x10) && (func != 0xFF)
  | .rspAck _ _ => true
  | .rspNack _ _ _ => true
  | .rspResp _ _ data => decide (data.length ≤ 255)
  | .asciiLine _ => true

/-- The RESP terms whose bytes are an ACK's or a NACK's: "The receiver cannot tell these apart by
their bytes" (R88). -/
def Instr.ackOrNackShaped : Instr → Bool
  | .rspResp _ _ [z] => z == 0x00
  | .rspResp _ _ [z, _] => z == 0x00
  | _ => false

end Sys2Proof
end

