-- ==== Sys2Proof/Decode.lean ====
section
/-! DEFINITION. The decoder, total on any bytes, and the encoder. Operation words: 30 R80, R81.
Request frames: 30 R82-R84, R90. Lines: 30 R89. Responses: 30 R85-R88. -/

namespace Sys2Proof

open Machine

/-- Why bytes are no instruction at a port. -/
inductive DecodeError where
  /-- Not two bytes holding a 10-bit operation word (R80). -/
  | notAnOpWord
  /-- Shorter than the frame its bytes declare (R84). -/
  | incompleteFrame
  /-- Bytes after the end of the frame (R84). -/
  | bytesAfterFrame
  /-- Not ended by CR LF (R89). -/
  | notALine
  /-- Not of the layout of R85: byte 2 is not the number of data bytes. -/
  | notAResponse
  deriving DecidableEq, Repr

/-- What the decoder answers. -/
inductive Decoded where
  | instr (i : Instr)
  | error (e : DecodeError)
  deriving DecidableEq, Repr

/-- The kind field `op[9:8]` of an operation word (R80). -/
def opKind (w : BitVec 10) : BitVec 2 := w.extractLsb' 8 2

/-- The data field `op[7:0]` of an operation word (R80). -/
def opData (w : BitVec 10) : Byte := w.extractLsb' 0 8

/-- The operation word with these fields (R80). -/
def opWord (kind : BitVec 2) (data : Byte) : BitVec 10 := kind ++ data

/-- The operation of a word (R81): total; the data field counts for kind 00 only. -/
def decodeOp (w : BitVec 10) : Instr :=
  if opKind w = 0 then .opByte (opData w)
  else if opKind w = 1 then .opTimeout
  else if opKind w = 2 then .opClear
  else .opReserved

/-- The table row of a request frame, by its function code (R90, R179-R181). -/
def instrOfFrame (F : Frame) : Instr :=
  if F.func = 0x10 then .func10 F.addr F.data F.crc
  else if F.func = 0xFF then .funcSentinel F.addr F.data F.crc
  else .funcTable F.addr F.func F.data F.crc

/-- The request instruction at the front of the bytes, and the bytes after it (R84). -/
def decodeRequest (s : List Byte) : Option (Instr × List Byte) :=
  (parseFrame s).map fun (F, after) => (instrOfFrame F, after)

/-- The response shape of a handler's return (R86-R88): an ACK or a NACK where the bytes are one's,
else a RESP; none where byte 2 is not the number of bytes after it. -/
def decodeResponse : List Byte → Option Instr
  | a :: f :: m :: data =>
    if m.toNat ≠ data.length then none
    else match data with
      | [z] => if z = 0x00 then some (.rspAck a f) else some (.rspResp a f data)
      | [z, e] => if z = 0x00 then some (.rspNack a f e) else some (.rspResp a f data)
      | _ => some (.rspResp a f data)
  | _ => none

/-- The instruction that a port's bytes are, or why they are none. -/
def decode (p : Port) (s : List Byte) : Decoded :=
  match p with
  | .opWord =>
    match s with
    | [k, d] => if k.toNat < 4 then .instr (decodeOp (opWord (k.truncate 2) d)) else .error .notAnOpWord
    | _ => .error .notAnOpWord
  | .request =>
    match decodeRequest s with
    | some (i, []) => .instr i
    | some (_, _ :: _) => .error .bytesAfterFrame
    | none => .error .incompleteFrame
  | .line =>
    match parseLine s with
    | some content => .instr (.asciiLine content)
    | none => .error .notALine
  | .response =>
    match decodeResponse s with
    | some i => .instr i
    | none => .error .notAResponse

/-- The bytes of an instruction at its port: a response without its CRC, as the handler hands it over
(R85: the CRC is appended by the dispatcher, never by the handler). -/
def encode : Instr → List Byte
  | .opByte b => [0x00, b]
  | .opTimeout => [0x01, 0x00]
  | .opClear => [0x02, 0x00]
  | .opReserved => [0x03, 0x00]
  | .func10 a d c => Frame.bytes ⟨a, 0x10, d, c⟩
  | .funcSentinel a d c => Frame.bytes ⟨a, 0xFF, d, c⟩
  | .funcTable a f d c => Frame.bytes ⟨a, f, d, c⟩
  | .rspAck a f => encodeAck a f
  | .rspNack a f e => encodeNack a f e
  | .rspResp a f d => encodeResp a f d
  | .asciiLine content => lineBytes content

/-- The bytes of an instruction as the opcode table lays its row out: a response with its CRC. -/
def encodeRow (p : CrcParams) (i : Instr) : List Byte :=
  match i.port with
  | .response => appendCrc p (encode i)
  | _ => encode i

/-- The `k` bytes of a number, the most significant first: the table writes a row's first byte in its
most significant bits ({F[0], F[1], F[2]}). -/
def bytesOf : Nat → Nat → List Byte
  | 0, _ => []
  | k + 1, w => BitVec.ofNat 8 (w / 256 ^ k) :: bytesOf k w

/-- The instruction of a response row's bytes (CRC byte last: it is the block's own, log entry 14), or
of a line's. -/
def decodeLongRow (s : List Byte) : Option Instr :=
  match decodeResponse s.dropLast with
  | some i => some i
  | none => (parseLine s).map Instr.asciiLine

/-- The request frame that a 24-bit header of the table begins, every later byte 0 (R82). -/
def headerFrame (w : Nat) : List Byte :=
  bytesOf 3 w ++ List.replicate (w % 256 + 1) 0x00

/-- The instruction of a word of the opcode table (log entry 15): up to 16 bits, an operation word; 24
bits, a request header whose data and CRC bytes are 0; more, a response with its CRC byte or a line. The table numbers no bits of these last rows: their first
byte is read as the most significant one, and where that is no row, as the least significant one. -/
def decodeTableWord (nbits w : Nat) : Option Instr :=
  if nbits ≤ 16 ∧ w < 1024 then some (decodeOp (BitVec.ofNat 10 w))
  else if nbits = 24 then (decodeRequest (headerFrame w)).map Prod.fst
  else match decodeLongRow (bytesOf (nbits / 8) w) with
    | some i => some i
    | none => decodeLongRow (bytesOf (nbits / 8) w).reverse

end Sys2Proof
end

