-- ==== Sys2Proof/Machine/Select.lean ====
section
/-! DEFINITION. When a step of an instance is enabled, and the fetch of an operation word (40 R112; 42
R176; 40 R127; 43 R206; 60 R233). -/

namespace Sys2Proof.Machine

/-- The engine is enabled (R112). -/
def Inst.enabled (t : Inst) : Bool :=
  t.started && decide (t.phase = .recv) && decide (t.faults = Faults.empty)

/-- The operation word the engine takes when the chosen word is `w`, and the instance it then acts on;
none where that operation is not enabled (R112). For kind 00 the data byte is popped from RXQ (R80). -/
def Inst.selectOp (w : BitVec 10) (t : Inst) : Option (BitVec 10 × Inst) :=
  if !t.enabled then none
  else if opKind w = 0 then
    match t.rxq with
    | [] => none
    | b :: rest => some (opWord 0 b, { t with rxq := rest })
  else if opKind w = 1 then
    if t.rxq = [] then some (w, t) else none
  else if opKind w = 2 then
    if 0 < t.clearReqs then some (w, t) else none
  else some (w, t)

/-- The handler's return to its `call`-th request is taken (R176): the instance waits for it. A return
to an abandoned call is not (R260, 93 U20). -/
def Inst.awaitsHandler (call : Nat) (t : Inst) : Bool :=
  decide (t.phase = .waitHandler) && decide (t.faults = Faults.empty) && decide (call = t.handlerReqs.length)

/-- The Adapter's return to its `call`-th line is taken (R127). -/
def Inst.awaitsAscii (call : Nat) (t : Inst) : Bool :=
  decide (t.phase = .waitAscii) && decide (t.faults = Faults.empty) && decide (call = t.asciiReqs.length)

/-- A TX acceptance is taken (R206). -/
def Inst.awaitsTx (t : Inst) : Bool :=
  decide (t.phase = .txDrain) && decide (t.faults = Faults.empty)

end Sys2Proof.Machine
end

