-- ==== Sys2Proof/Machine/Engine.lean ====
section
/-! DEFINITION. What each event does (00 R3, 10 R38): an operation, a handler return and the rest, each
one step; an event whose step is not enabled changes nothing (log entry 5). -/

namespace Sys2Proof.Machine

/-- A handler's return (R176): an ACK, NACK or RESP runs as that instruction; bytes of no response shape
are not checked by the block and go the same way (decision D32). -/
def runHandlerRsp (r : List Byte) (s : State) : Host.Outcome State Fault Refusal :=
  match decode .response r with
  | .instr i => exec i s
  | .error _ => .next (s.answer r)

/-- An event at the ports of the active instance. -/
def runPort (e : PortEvent) (s : State) : Host.Outcome State Fault Refusal :=
  match e with
  | .rxPush b => .next (s.setAct (s.act.rxPush s.cfg b))
  | .rxResume => .next (s.setAct (s.act.rxResume s.cfg))
  | .op w =>
    match s.act.selectOp w with
    | some (w', t) => exec (decodeOp w') (s.setAct t)
    | none => .next s
  | .clear => .next (s.setAct s.act.clearRequest)
  | .start => .next (s.setAct s.act.start)
  | .cfgWrite v => .next (s.setAct (s.act.cfgWrite v))
  | .setAsciiMode v => .next (s.setAct { s.act with asciiMode := v })
  | .setSessionPerm v => .next (s.setAct { s.act with sessionPerm := v })
  | .handlerRsp call r => if s.act.awaitsHandler call then runHandlerRsp r s else .next s
  | .asciiRsp call r => .next (if s.act.awaitsAscii call then s.setAct (s.act.asciiReturn r) else s)
  | .txAccept => .next (if s.act.awaitsTx then s.setAct s.act.txByte else s)

/-- One event. -/
def runEvent (e : Event) (s : State) : Host.Outcome State Fault Refusal :=
  match e with
  | .reset => .next s.doReset
  | .setAsleep v => .next { s with sysAsleep := v }
  | .port c e => runPort e { s with active := c }

/-- The next event; where none is left nothing happens (60 R234). -/
def runNext (s : State) : Host.Outcome State Fault Refusal :=
  match s.inputs with
  | [] => .next s
  | e :: rest => runEvent e { s with inputs := rest }

/-- The instance with its engine enabled and its frame buffer one byte short of `bytes`, the last byte
at the head of RXQ: the next OP_BYTE completes the frame or line. -/
def Inst.placeBuffered (ascii : Bool) (bytes : List Byte) (t : Inst) : Inst :=
  { t with started := true, phase := .recv, faults := Faults.empty, asciiMode := ascii,
           buf := bytes.dropLast, rxq := bytes.getLast?.toList ++ t.rxq }

/-- The state in which the next step runs an instruction on the active instance: the event that brings
it, and what the fetch needs (log entry 15). -/
def State.place (s : State) (i : Instr) : State :=
  let t := s.act
  let on := { t with started := true, phase := .recv, faults := Faults.empty }
  let go (t : Inst) (e : PortEvent) : State :=
    { s.setAct t with inputs := .port s.active e :: s.inputs }
  match i with
  | .opByte b => go { on with rxq := b :: t.rxq } (.op (opWord 0 0))
  | .opTimeout => go { on with rxq := [] } (.op (opWord 1 0))
  | .opClear => go { on with clearReqs := t.clearReqs + 1 } (.op (opWord 2 0))
  | .opReserved => go on (.op (opWord 3 0))
  | .func10 _ _ _ => { go (t.placeBuffered false (encode i)) (.op (opWord 0 0)) with sysAsleep := false }
  | .funcSentinel _ _ _ => { go (t.placeBuffered false (encode i)) (.op (opWord 0 0)) with sysAsleep := false }
  | .funcTable _ _ _ _ => { go (t.placeBuffered false (encode i)) (.op (opWord 0 0)) with sysAsleep := false }
  | .asciiLine _ => { go (t.placeBuffered true (encode i)) (.op (opWord 0 0)) with sysAsleep := false }
  | .rspAck _ _ | .rspNack _ _ _ | .rspResp _ _ _ =>
    go { t with phase := .waitHandler, faults := Faults.empty } (.handlerRsp t.handlerReqs.length (encode i))

end Sys2Proof.Machine
end

