-- ==== Sys2Proof/Safety.lean ====
section
/-! DEFINITION. What counts as a safe run, and the states the claims name: no fault mark (60 R233), the
bounds and phase relations of 10 R22-R29, and the shape of BUF in binary mode (42 R164). -/

namespace Sys2Proof

/-- The frame of a FUNC_0x10, FUNC_SENTINEL or FUNC_TABLE instruction (R82). -/
def Instr.frame? : Instr → Option Machine.Frame
  | .opByte _ => none
  | .opTimeout => none
  | .opClear => none
  | .opReserved => none
  | .func10 a d c => some ⟨a, 0x10, d, c⟩
  | .funcSentinel a d c => some ⟨a, 0xFF, d, c⟩
  | .funcTable a f d c => some ⟨a, f, d, c⟩
  | .rspAck _ _ => none
  | .rspNack _ _ _ => none
  | .rspResp _ _ _ => none
  | .asciiLine _ => none

end Sys2Proof

namespace Sys2Proof.Machine

/-- "A claim about the block takes FAULTS = {} as a premise" (R233). -/
def State.FaultFree (s : State) : Prop :=
  ∀ c, (s.inst c).faults = Faults.empty

/-- The relations between the fields of one instance that every step keeps. -/
structure Inst.Inv (cfg : Config) (t : Inst) : Prop where
  /-- R22: RXQ holds at most QDEPTH bytes. -/
  rxqBound : t.rxq.length ≤ cfg.qDepth
  /-- R24: BUF_LEN never exceeds BUF_CAP. -/
  bufBound : t.buf.length ≤ cfg.bufCap
  /-- R28: RSP holds at most RSP_MAX + 1 bytes. -/
  rspBound : t.rsp.length ≤ rspMax + 1
  /-- R28, R206: in TX_DRAIN a byte of RSP is still to be accepted. -/
  draining : t.phase = .txDrain → t.rspPos < t.rsp.length
  /-- R206: outside TX_DRAIN there is no response. -/
  noResponse : t.phase ≠ .txDrain → t.rsp = [] ∧ t.rspPos = 0
  /-- R126, R173, R202: BUF is empty while the engine waits or transmits. -/
  noFrame : t.phase ≠ .recv → t.buf = []
  /-- R263: before start the engine has done nothing. -/
  notStarted : t.started = false → t.phase = .recv ∧ t.buf = [] ∧ t.faults = Faults.empty
  /-- R110: a push waits only under BLOCK_PRODUCER. -/
  holding : t.held ≠ [] → cfg.rxqFull = .blockProducer
  /-- R233: the first fault stops the instance, so FAULTS has at most one mark. -/
  oneFault : t.faults = Faults.empty ∨ ∃ f, t.faults = Faults.empty.add f
  /-- R121, R172: raised by an operation. -/
  engineFault : t.faults.illegalOp = true ∨ t.faults.badPerm = true → t.phase = .recv
  /-- R176: raised by the handler's return. -/
  handlerFault : t.faults.rspOversize = true → t.phase = .waitHandler
  /-- R127: raised by the Adapter's return. -/
  asciiFault : t.faults.asciiOversize = true → t.phase = .waitAscii
  /-- R173: the call in progress is the last one made, and DISP_OUTCOME is NONE. -/
  inHandler : t.phase = .waitHandler → t.dispOutcome = .none ∧ t.handlerReqs ≠ []
  /-- R126: as for the handler. -/
  inAscii : t.phase = .waitAscii → t.dispOutcome = .doneAscii ∧ t.asciiReqs ≠ []
  /-- R127, R177, R202: what is transmitted is a binary response or the Adapter's. -/
  inDrain : t.phase = .txDrain → t.dispOutcome = .doneResponse ∨ t.dispOutcome = .doneAscii

/-- Both instances meet the invariant. -/
def State.Inv (s : State) : Prop :=
  ∀ c, (s.inst c).Inv s.cfg

/-- R164 as a property of a state: in binary mode, without a fault, BUF is empty or is an incomplete
frame at an accepted address. -/
def Inst.BinaryBuf (cfg : Config) (t : Inst) : Prop :=
  t.asciiMode = false → t.faults = Faults.empty →
    t.buf = [] ∨ (∃ a rest, t.buf = a :: rest ∧ accepts cfg a = true) ∧ codecBinary t.buf = .processing

/-- Both instances meet it. -/
def State.BinaryBuf (s : State) : Prop :=
  ∀ c, (s.inst c).BinaryBuf s.cfg

/-! ### States that the claims name, spelled out field by field -/

/-- The active instance answers with a binary response of these bytes, CRC included, at this address. -/
def State.sending (s : State) (addr : Byte) (r : List Byte) : State :=
  s.setAct { s.act with curAddr := addr, rsp := r ++ [crc8 s.cfg.crc r], rspPos := 0, buf := [],
                        dispOutcome := .doneResponse, phase := .txDrain }

/-- The error path has been entered (R227) with this request address, function code and exception. -/
def State.nacking (s : State) (addr func exc : Byte) : State :=
  s.sending addr [addr, func, 0x02, 0x00, exc]

/-- The handler of entry `i` has been called with this frame (R173, R175). -/
def State.calling (s : State) (i : Nat) (F : Frame) : State :=
  s.setAct { s.act with curAddr := F.addr, buf := [], dispOutcome := .none, phase := .waitHandler,
                        handlerReqs := s.act.handlerReqs ++ [⟨i, F.bytes, F.addr⟩] }

/-- The environment of a request (R178): awake, in binary mode, addressed to this device, encodable,
and with its CRC right or unchecked. -/
structure State.Ready (s : State) (F : Frame) : Prop where
  config : s.cfg.wf = true
  awake : s.sysAsleep = false
  binary : s.act.asciiMode = false
  mine : accepts s.cfg F.addr = true
  fits : F.data.length ≤ 255
  crcRight : s.act.crcCheckEn = true → F.crc = crc8 s.cfg.crc F.covered

/-- The next event and the rest of them. -/
def State.NextEvent (s : State) (e : Event) (rest : List Event) : Prop :=
  s.cfg.wf = true ∧ s.inputs = e :: rest

/-- `s` as it stands while an event at a port of instance `c` happens. -/
def State.during (s : State) (c : Chan) (rest : List Event) : State :=
  { s with active := c, inputs := rest }

end Sys2Proof.Machine
end

