-- ==== Sys2Proof/Certificates/Slice0/Obligations.lean ====
section
/-! DEFINITION. The statements for the provers. Where a statement gives the next state of an instruction
as `s.setAct { s.act with … }`, the fields it does not name, the other instance, the configuration, the
levels and the events to come are unchanged: that is its frame. -/

open Sys2Proof Sys2Proof.Machine

/-! ### Decoding and encoding -/

/-- Sanity, from the encodings of 30 R80-R89 and 41 R141: words written out byte by byte decode to the
instruction they stand for. (That a handler's bytes in an ACK's or a NACK's shape are read as that one
and not as a RESP is the model's choice, log entry 16.) -/
def Obligations.WrittenOutWordsDecode : Prop :=
  decode .opWord [0x00, 0x41] = .instr (.opByte 0x41) ∧
  decode .opWord [0x01, 0xFF] = .instr .opTimeout ∧
  decode .opWord [0x02, 0x00] = .instr .opClear ∧
  decode .opWord [0x03, 0x00] = .instr .opReserved ∧
  decode .request [0x01, 0x10, 0x00, 0x3C] = .instr (.func10 0x01 [] 0x3C) ∧
  decode .request [0x01, 0xFF, 0x00, 0xBC] = .instr (.funcSentinel 0x01 [] 0xBC) ∧
  decode .request [0x01, 0x20, 0x02, 0xAA, 0x55, 0x4C] = .instr (.funcTable 0x01 0x20 [0xAA, 0x55] 0x4C) ∧
  decode .response [0x01, 0x10, 0x01, 0x00] = .instr (.rspAck 0x01 0x10) ∧
  decode .response [0x01, 0x10, 0x02, 0x00, 0x05] = .instr (.rspNack 0x01 0x10 0x05) ∧
  decode .response [0x01, 0x21, 0x03, 0x11, 0x22, 0x33] = .instr (.rspResp 0x01 0x21 [0x11, 0x22, 0x33]) ∧
  decode .line [0x4F, 0x4B, 0x0D, 0x0A] = .instr (.asciiLine [0x4F, 0x4B])

/-- R81: the kind field selects the operation; the data field counts for kind 00 alone. -/
def Obligations.OperationKindSelectsOperation : Prop :=
  ∀ w : BitVec 10,
    (w.extractLsb' 8 2 = 0 → decodeOp w = .opByte (w.extractLsb' 0 8)) ∧
    (w.extractLsb' 8 2 = 1 → decodeOp w = .opTimeout) ∧
    (w.extractLsb' 8 2 = 2 → decodeOp w = .opClear) ∧
    (w.extractLsb' 8 2 = 3 → decodeOp w = .opReserved)

/-- Decode and encode agree (30 R80-R89): every well-formed instruction, every operand at every value,
but the RESP terms whose bytes are an ACK's or a NACK's (R88; the decoder's answer for these bytes is the
model's choice, log entry 16: `ShapedRespDecodesAsAckOrNack`). -/
def Obligations.DecodeEncodeRoundTrip : Prop :=
  ∀ i : Instr, i.wf = true → i.ackOrNackShaped = false → decode i.port (encode i) = .instr i

/-- A RESP with the data `[0x00]` has an ACK's bytes, one with `[0x00, e]` a NACK's (R88). That the decoder
answers the ACK or the NACK for these bytes is the model's choice (log entry 16): R88 says only that the
receiver cannot tell them apart. Either way the effect is the same. -/
def Obligations.ShapedRespDecodesAsAckOrNack : Prop :=
  ∀ (a f e : Byte) (s : State),
    decode .response (encode (.rspResp a f [0x00])) = .instr (.rspAck a f) ∧
    exec (.rspResp a f [0x00]) s = exec (.rspAck a f) s ∧
    decode .response (encode (.rspResp a f [0x00, e])) = .instr (.rspNack a f e) ∧
    exec (.rspResp a f [0x00, e]) s = exec (.rspNack a f e) s

/-- The other direction: at the ports where no bit is ignored (all but the operation word, R81), bytes
that decode are exactly the encoding of a well-formed instruction of that port. -/
def Obligations.DecodedBytesAreTheEncoding : Prop :=
  ∀ (p : Port) (bytes : List Byte) (i : Instr), p ≠ .opWord → decode p bytes = .instr i →
    encode i = bytes ∧ i.wf = true ∧ i.port = p

/-! ### CRC-8 -/

/-- R142 (a) and (c), for every parameter set: the CRC of nothing, and the zero residue without
reflection and final XOR. -/
def Obligations.CrcOfEmptyAndZeroResidue : Prop :=
  ∀ p : CrcParams,
    crc8 p [] = (if p.refOut then reverse8 p.init else p.init) ^^^ p.xorOut ∧
    (p.refIn = false → p.refOut = false → p.xorOut = 0x00 → ∀ s, crc8 p (s ++ [crc8 p s]) = 0x00)

/-- R140: "All arithmetic is in GF(2): XOR, with no carries". For two sequences of one length, the CRC of
their XOR is the XOR of their CRCs, up to the CRC of zeros. -/
def Obligations.CrcIsLinear : Prop :=
  ∀ (p : CrcParams) (s t : List Byte), s.length = t.length →
    crc8 p (List.zipWith (· ^^^ ·) s t) = crc8 p s ^^^ crc8 p t ^^^ crc8 p (s.map fun _ => 0x00)

/-- The model's reading of R142 (b), log entry 18: for a generator polynomial whose x^0 term is 1, the
CRC depends on every byte. (For an even CRC_POLY it does not: with CRC_POLY = 0x00, any CRC is
the finish of 0.) -/
def Obligations.CrcDependsOnEveryByte : Prop :=
  ∀ (p : CrcParams) (s t : List Byte) (b c : Byte), p.poly.getLsbD 0 = true → b ≠ c →
    crc8 p (s ++ b :: t) ≠ crc8 p (s ++ c :: t)

/-! ### The codec -/

/-- codec_state in binary mode (the three cases of R117), by the length and the byte at index 2. -/
def Obligations.BinaryCodecState : Prop :=
  ∀ s : List Byte,
    (s.length < 3 → codecBinary s = .processing) ∧
    (∀ n, s[2]? = some n → s.length < 4 + n.toNat → codecBinary s = .processing) ∧
    (∀ n, s[2]? = some n → 4 + n.toNat ≤ s.length → codecBinary s = .completeFrame)

/-- R123: no early completion. Every proper prefix of a frame is Processing, whatever its tail, and the
frame is CompleteFrame. -/
def Obligations.FrameCompletesAtItsLastByte : Prop :=
  ∀ F : Frame, F.data.length ≤ 255 →
    codecBinary F.bytes = .completeFrame ∧
    ∀ k, k < F.bytes.length → codecBinary (F.bytes.take k) = .processing

/-- R122: codec_state in ASCII mode: complete exactly where the sequence ends with CR LF. -/
def Obligations.AsciiCodecState : Prop :=
  ∀ s : List Byte,
    ((∃ content, s = content ++ [0x0D, 0x0A]) → codecAscii s = .completeFrame) ∧
    ((¬ ∃ content, s = content ++ [0x0D, 0x0A]) → codecAscii s = .processing)

/-- R204: a response built by encode_resp and given its CRC is read back: its prefixes are Processing, it
is CompleteFrame, its fields are the ones encoded, its CRC is right. -/
def Obligations.RespRoundTrip : Prop :=
  ∀ (p : CrcParams) (a f : Byte) (d : List Byte), d.length ≤ 255 →
    let F := appendCrc p (encodeResp a f d)
    codecBinary F = .completeFrame ∧
    (∀ k, k < F.length → codecBinary (F.take k) = .processing) ∧
    F[1]? = some f ∧
    (∃ n, F[2]? = some n ∧ (F.drop 3).take n.toNat = d) ∧
    ∃ G, parseFrame F = some (G, []) ∧ G.crcOk p = true

/-! ### The engine operations -/

/-- OP_TIMEOUT (R118) completes in every state: BUF is cleared, FRAME_STATE is Processing, DISP_OUTCOME is
NONE, ASLEEP is reported, and nothing else changes. -/
def Obligations.TimeoutClearsAndReportsAsleep : Prop :=
  ∀ s : State, exec .opTimeout s = .next (s.setAct { s.act with
    buf := [], frameState := .processing, dispOutcome := .none, live := s.act.live ++ [.asleep] })

/-- OP_CLEAR (R120) completes in every state: BUF is cleared, FRAME_STATE is Error, DISP_OUTCOME is
DONE_ERROR, one pending request is consumed (that requests add up is the model's choice, log entry 7),
and nothing else changes. -/
def Obligations.ClearDropsTheFrame : Prop :=
  ∀ s : State, exec .opClear s = .next (s.setAct { s.act with
    buf := [], frameState := .error, dispOutcome := .doneError, clearReqs := s.act.clearReqs - 1 })

/-- OP_RESERVED (R121) completes in every state: F_ILLEGAL_OP joins FAULTS, and nothing else changes. -/
def Obligations.ReservedRaisesIllegalOp : Prop :=
  ∀ s : State, exec .opReserved s = .next (s.setAct { s.act with
    faults := { s.act.faults with illegalOp := true } })

/-- OP_BYTE on a full BUF (R115): the byte is discarded, BUF is cleared, Error and DONE_ERROR, no
evaluation; ALIVE is reported (R113). -/
def Obligations.ByteIntoFullBufOverflows : Prop :=
  ∀ (s : State) (b : Byte), s.act.buf.length = s.cfg.bufCap →
    exec (.opByte b) s = .next (s.setAct { s.act with
      buf := [], frameState := .error, dispOutcome := .doneError, live := s.act.live ++ [.alive] })

/-- OP_BYTE while the system sleeps (R161): the byte is consumed and BUF cleared, in either mode,
whatever the bytes; DONE_SILENT, nothing sent, CUR_ADDR kept. -/
def Obligations.ByteWhileAsleepIsDiscarded : Prop :=
  ∀ (s : State) (b : Byte), s.act.buf.length ≠ s.cfg.bufCap → s.sysAsleep = true →
    exec (.opByte b) s = .next (s.setAct { s.act with
      buf := [], frameState := codecState s.act.asciiMode (s.act.buf ++ [b]),
      dispOutcome := .doneSilent, live := s.act.live ++ [.alive] })

/-- OP_BYTE in binary mode that completes no frame (R163, R164): at a foreign address BUF is cleared and
DONE_SILENT; at an accepted one the byte is kept and PROCESSING. `a` is the first byte of BUF with
the new byte. -/
def Obligations.ByteOfUnfinishedFrame : Prop :=
  ∀ (s : State) (a b : Byte) (rest : List Byte),
    s.act.buf.length ≠ s.cfg.bufCap → s.sysAsleep = false → s.act.asciiMode = false →
    s.act.buf ++ [b] = a :: rest →
    (¬ (a = s.cfg.addrPrimary ∨ a = s.cfg.addrSecondary ∨ a = s.cfg.addrAscii) →
      exec (.opByte b) s = .next (s.setAct { s.act with
        buf := [], frameState := codecBinary (a :: rest), dispOutcome := .doneSilent,
        live := s.act.live ++ [.alive] })) ∧
    ((a = s.cfg.addrPrimary ∨ a = s.cfg.addrSecondary ∨ a = s.cfg.addrAscii) →
      codecBinary (a :: rest) = .processing →
      exec (.opByte b) s = .next (s.setAct { s.act with
        buf := a :: rest, frameState := .processing, dispOutcome := .processing,
        live := s.act.live ++ [.alive] }))

/-- OP_BYTE that completes a binary frame runs the function-code instruction which the bytes in BUF
decode to (R113, R160, R179-R181), on the state with the byte appended, FRAME_STATE = CompleteFrame
and ALIVE reported. -/
def Obligations.ByteCompletingFrameRunsItsFunction : Prop :=
  ∀ (s : State) (b : Byte) (i : Instr),
    s.act.buf.length < s.cfg.bufCap → s.act.asciiMode = false →
    decode .request (s.act.buf ++ [b]) = .instr i →
    exec (.opByte b) s = exec i (s.setAct { s.act with
      buf := s.act.buf ++ [b], frameState := .completeFrame, live := s.act.live ++ [.alive] })

/-- OP_BYTE in ASCII mode (R162, R122, R126): CR LF hands the whole line to the Adapter; otherwise the byte
is kept and PROCESSING. -/
def Obligations.ByteInAsciiMode : Prop :=
  ∀ (s : State) (b : Byte),
    s.act.buf.length < s.cfg.bufCap → s.sysAsleep = false → s.act.asciiMode = true →
    (∀ content, s.act.buf ++ [b] = content ++ [0x0D, 0x0A] →
      exec (.opByte b) s = .next (s.setAct { s.act with
        buf := [], frameState := .completeFrame, dispOutcome := .doneAscii, phase := .waitAscii,
        asciiReqs := s.act.asciiReqs ++ [content ++ [0x0D, 0x0A]], live := s.act.live ++ [.alive] })) ∧
    ((¬ ∃ content, s.act.buf ++ [b] = content ++ [0x0D, 0x0A]) →
      exec (.opByte b) s = .next (s.setAct { s.act with
        buf := s.act.buf ++ [b], frameState := .processing, dispOutcome := .processing,
        live := s.act.live ++ [.alive] }))

/-! ### The function codes, and the line

As instructions they are complete bytes presented to the dispatch contract (R160; log entry 13). -/

/-- A complete frame whose CRC is wrong, with the check enabled (R145, R225): NACK CRCERROR to the sender,
whatever the function code, its permission or the session; FUNC_0x10, FUNC_SENTINEL, FUNC_TABLE. -/
def Obligations.FrameWithBadCrcIsNacked : Prop :=
  ∀ (s : State) (i : Instr) (F : Frame), i.frame? = some F →
    s.cfg.wf = true → s.sysAsleep = false → s.act.asciiMode = false → accepts s.cfg F.addr = true →
    F.data.length ≤ 255 → s.act.crcCheckEn = true → F.crc ≠ crc8 s.cfg.crc F.covered →
    exec i s = .next (s.nacking F.addr F.func s.cfg.exc.crcError)

/-- A function code that no entry of the table has (R170): NACK UNKNOWNCMD echoing it, at every session
level; FUNC_0x10 and FUNC_TABLE. -/
def Obligations.UnknownFunctionIsNacked : Prop :=
  ∀ (s : State) (i : Instr) (F : Frame), i.frame? = some F → s.Ready F →
    (∀ e ∈ s.cfg.cmdTable, e.code ≠ F.func) →
    exec i s = .next (s.nacking F.addr F.func s.cfg.exc.unknownCmd)

/-- FUNC_SENTINEL (R180) completes: lookup misses on the sentinel's own entry, so the answer is NACK 0xFF
UNKNOWNCMD, at every session level. -/
def Obligations.SentinelCodeIsUnknown : Prop :=
  ∀ (s : State) (a c : Byte) (d : List Byte), s.Ready ⟨a, 0xFF, d, c⟩ →
    exec (.funcSentinel a d c) s = .next (s.nacking a 0xFF s.cfg.exc.unknownCmd)

/-- FUNC_0x10 and FUNC_TABLE complete (R173, R175): where the table has the code at entry `k` and the
session's level reaches that entry's, the handler of entry `k` is called with the whole frame, its CRC
byte included, and the address latched from it; BUF is cleared, DISP_OUTCOME is NONE, the instance
waits. -/
def Obligations.PermittedFunctionCallsItsHandler : Prop :=
  ∀ (s : State) (a c : Byte) (d : List Byte) (k : Nat) (e : Entry), s.cfg.cmdTable[k]? = some e →
    s.act.sessionPerm ≠ 3 → e.perm.code ≤ s.act.sessionPerm →
    (e.code = 0x10 → s.Ready ⟨a, 0x10, d, c⟩ →
      exec (.func10 a d c) s = .next (s.calling k ⟨a, 0x10, d, c⟩)) ∧
    (∀ f, e.code = f → f ≠ 0xFF → s.Ready ⟨a, f, d, c⟩ →
      exec (.funcTable a f d c) s = .next (s.calling k ⟨a, f, d, c⟩))

/-- R172: a known code above the session's level is answered NACK NOPERM and no handler is called. -/
def Obligations.ForbiddenFunctionIsNacked : Prop :=
  ∀ (s : State) (i : Instr) (F : Frame) (e : Entry), i.frame? = some F → s.Ready F →
    e ∈ s.cfg.cmdTable → e.code = F.func → F.func ≠ 0xFF →
    s.act.sessionPerm ≠ 3 → s.act.sessionPerm < e.perm.code →
    exec i s = .next (s.nacking F.addr F.func s.cfg.exc.noPerm)

/-- The reserved session level raises F_BAD_PERM on a known code (R172, R233). What else the state then
holds is read from the order of the contract (log entry 10): CUR_ADDR has been latched at step 5 (R166),
the frame stays in BUF (00 R12), DISP_OUTCOME is unchanged and nothing is sent (R178). -/
def Obligations.ReservedSessionLevelFaults : Prop :=
  ∀ (s : State) (i : Instr) (F : Frame) (e : Entry), i.frame? = some F → s.Ready F →
    e ∈ s.cfg.cmdTable → e.code = F.func → F.func ≠ 0xFF → s.act.sessionPerm = 3 →
    exec i s = .next (s.setAct { s.act with
      buf := F.bytes, curAddr := F.addr, faults := { s.act.faults with badPerm := true } })

/-- R161, R163: a complete frame while asleep, or at a foreign address in binary mode, is dropped: BUF is
cleared, DONE_SILENT, and nothing else changes, CUR_ADDR included. -/
def Obligations.SleepingOrForeignFrameIsDropped : Prop :=
  ∀ (s : State) (i : Instr) (F : Frame), i.frame? = some F → s.cfg.wf = true → F.data.length ≤ 255 →
    (s.sysAsleep = true ∨
      s.act.asciiMode = false ∧ F.addr ≠ s.cfg.addrPrimary ∧ F.addr ≠ s.cfg.addrSecondary ∧
        F.addr ≠ s.cfg.addrAscii) →
    exec i s = .next (s.setAct { s.act with buf := [], dispOutcome := .doneSilent })

/-- ASCII_LINE (R126, R125) completes: awake and in ASCII mode, the whole line goes to the Adapter; no
address filter, CRC check, latch, lookup or permission has a part in it. -/
def Obligations.LineGoesToTheAdapter : Prop :=
  ∀ (s : State) (content : List Byte), s.sysAsleep = false → s.act.asciiMode = true →
    content.length + 2 ≤ s.cfg.bufCap →
    exec (.asciiLine content) s = .next (s.setAct { s.act with
      asciiReqs := s.act.asciiReqs ++ [content ++ [0x0D, 0x0A]], buf := [], dispOutcome := .doneAscii,
      phase := .waitAscii })

/-- R168: the scan, on any table: HIT(i) exactly where entry `i` has the code, the code is not 0xFF and
every earlier entry's code is below it; otherwise MISS. -/
def Obligations.LookupStopsAtFirstCodeAtLeast : Prop :=
  ∀ (t : List Entry) (f : Byte),
    ∀ i p, lookup t f = some (i, p) ↔
      (∃ e, t[i]? = some e ∧ e.code = f ∧ e.perm = p) ∧ f ≠ 0xFF ∧
        ∀ j e, j < i → t[j]? = some e → e.code < f

/-- R171: the matrix of session level against entry permission. -/
def Obligations.PermissionMatrix : Prop :=
  ∀ session need : Perm, session.code < need.code ↔
    (need = .admin ∧ session = .all) ∨ (need = .super ∧ session = .all) ∨
    (need = .super ∧ session = .admin)

/-! ### Responses

As instructions they are a handler's return (R176; log entry 13). -/

/-- RSP_ACK, RSP_NACK, RSP_RESP complete (R200, R201, R203 with R177): the CRC-less frame gets its CRC and
goes to TX: RSP, RSP_POS, DISP_OUTCOME and PHASE change, and nothing else. A RESP of more than 255 data
bytes cannot be encoded and is refused (R203, 93 U15). -/
def Obligations.ResponsesAreFramedAndSent : Prop :=
  ∀ (s : State) (a f e : Byte) (d : List Byte),
    let sent (r : List Byte) : State := s.setAct { s.act with
      rsp := r ++ [crc8 s.cfg.crc r], rspPos := 0, dispOutcome := .doneResponse, phase := .txDrain }
    exec (.rspAck a f) s = .next (sent [a, f, 0x01, 0x00]) ∧
    exec (.rspNack a f e) s = .next (sent [a, f, 0x02, 0x00, e]) ∧
    (d.length ≤ 255 →
      exec (.rspResp a f d) s = .next (sent ([a, f, BitVec.ofNat 8 d.length] ++ d))) ∧
    (255 < d.length → exec (.rspResp a f d) s = .refused .notEncodable)

/-- R176, R177: a handler's return, taken only in WAIT_HANDLER without a fault and for the call in
progress (that a return names its call, and that any other return is consumed and changes nothing, is the
model's choice, log entries 8 and 5): nothing sent for no bytes, F_RSP_OVERSIZE above RSP_MAX, and else
the bytes as returned, whatever their shape, with their CRC. -/
def Obligations.HandlerReturnStep : Prop :=
  ∀ (s : State) (c : Chan) (call : Nat) (r : List Byte) (rest : List Event),
    s.NextEvent (.port c (.handlerRsp call r)) rest →
    let t := s.inst c
    let now := s.during c rest
    ((t.phase = .waitHandler ∧ t.faults = Faults.empty ∧ call = t.handlerReqs.length) →
      (258 < r.length → step s = .next (now.setAct { t with faults := { t.faults with rspOversize := true } })) ∧
      (r = [] → step s = .next (now.setAct { t with dispOutcome := .doneSilent, phase := .recv })) ∧
      (r ≠ [] → r.length ≤ 258 → step s = .next (now.setAct { t with
        rsp := r ++ [crc8 s.cfg.crc r], rspPos := 0, dispOutcome := .doneResponse, phase := .txDrain }))) ∧
    (¬ (t.phase = .waitHandler ∧ t.faults = Faults.empty ∧ call = t.handlerReqs.length) →
      step s = .next now)

/-- R127: the Adapter's return, likewise (the call it names, and a return not awaited: log entries 8 and
5): its bytes go out as they are, without a CRC. -/
def Obligations.AdapterReturnStep : Prop :=
  ∀ (s : State) (c : Chan) (call : Nat) (r : List Byte) (rest : List Event),
    s.NextEvent (.port c (.asciiRsp call r)) rest →
    let t := s.inst c
    let now := s.during c rest
    ((t.phase = .waitAscii ∧ t.faults = Faults.empty ∧ call = t.asciiReqs.length) →
      (258 < r.length → step s = .next (now.setAct { t with faults := { t.faults with asciiOversize := true } })) ∧
      (r = [] → step s = .next (now.setAct { t with phase := .recv })) ∧
      (r ≠ [] → r.length ≤ 258 →
        step s = .next (now.setAct { t with rsp := r, rspPos := 0, phase := .txDrain }))) ∧
    (¬ (t.phase = .waitAscii ∧ t.faults = Faults.empty ∧ call = t.asciiReqs.length) → step s = .next now)

/-- R206: one byte at the TX port, in index order; after the last one RSP is empty and PHASE is RECV. That an
acceptance outside TX_DRAIN, or of a faulted instance, is consumed and changes nothing is the model's
choice (log entry 5): R206 says only that the step is not enabled. -/
def Obligations.TransmitStep : Prop :=
  ∀ (s : State) (c : Chan) (b : Byte) (rest : List Event), s.NextEvent (.port c .txAccept) rest →
    let t := s.inst c
    let now := s.during c rest
    (t.phase = .txDrain → t.faults = Faults.empty → t.rsp[t.rspPos]? = some b →
      (t.rspPos + 1 = t.rsp.length → step s = .next (now.setAct { t with
        tx := t.tx ++ [b], rsp := [], rspPos := 0, phase := .recv })) ∧
      (t.rspPos + 1 ≠ t.rsp.length → step s = .next (now.setAct { t with
        tx := t.tx ++ [b], rspPos := t.rspPos + 1 }))) ∧
    (¬ (t.phase = .txDrain ∧ t.faults = Faults.empty) → step s = .next now)

/-- R206, R67: whatever response an instance is transmitting, as many acceptances as it has bytes left
send exactly those bytes, in order, and bring it back to RECV; everything else is as it was. -/
def Obligations.WholeResponseIsTransmitted : Prop :=
  ∀ (s : State) (c : Chan) (rest : List Event), s.cfg.wf = true →
    (s.inst c).phase = .txDrain → (s.inst c).faults = Faults.empty →
    (s.inst c).rspPos < (s.inst c).rsp.length →
    let k := (s.inst c).rsp.length - (s.inst c).rspPos
    s.inputs = List.replicate k (.port c .txAccept) ++ rest →
    core.run k s = .next ((s.during c rest).setAct { s.inst c with
      tx := (s.inst c).tx ++ (s.inst c).rsp.drop (s.inst c).rspPos, rsp := [], rspPos := 0, phase := .recv })

/-- R113, R160, R164: a frame for this device that waits in RXQ, with the engine enabled, awake, in binary
mode and BUF empty, is reassembled by as many OP_BYTEs as it has bytes and then runs the
function-code instruction it decodes to, once: BUF holds exactly the frame when it runs, RXQ what came
after it, and ALIVE has been reported for each byte. -/
def Obligations.QueuedFrameIsReassembledAndRun : Prop :=
  ∀ (s : State) (c : Chan) (F : Frame) (i : Instr) (more : List Byte) (rest : List Event),
    s.cfg.wf = true → s.sysAsleep = false → (s.inst c).enabled = true → (s.inst c).asciiMode = false →
    (s.inst c).buf = [] → (s.inst c).rxq = F.bytes ++ more → F.data.length ≤ 255 →
    accepts s.cfg F.addr = true → decode .request F.bytes = .instr i →
    s.inputs = List.replicate F.bytes.length (.port c (.op 0x000)) ++ rest →
    core.run F.bytes.length s = exec i ((s.during c rest).setAct { s.inst c with
      rxq := more, buf := F.bytes, frameState := .completeFrame,
      dispOutcome := .processing,
      live := (s.inst c).live ++ List.replicate F.bytes.length .alive })

/-! ### Selecting and stepping -/

/-- A step runs the decoded operation: where the next event offers an operation word that R112 lets the
engine take, the step is exec of the decoded word, on the state whose active instance has had the byte
popped (kind 00). -/
def Obligations.StepRunsTheDecodedOperation : Prop :=
  ∀ (s : State) (c : Chan) (w w' : BitVec 10) (u : Inst) (rest : List Event),
    s.NextEvent (.port c (.op w)) rest → (s.inst c).selectOp w = some (w', u) →
    step s = exec (decodeOp w') ((s.during c rest).setAct u)

/-- A step runs the decoded response: a handler's return that the instance waits for and that decodes to
an instruction is exec of that instruction. -/
def Obligations.StepRunsTheDecodedResponse : Prop :=
  ∀ (s : State) (c : Chan) (call : Nat) (r : List Byte) (i : Instr) (rest : List Event),
    s.NextEvent (.port c (.handlerRsp call r)) rest → (s.inst c).awaitsHandler call = true →
    decode .response r = .instr i → step s = exec i (s.during c rest)

/-- R112: which operation the engine may take: none unless STARTED = 1, PHASE = RECV and FAULTS is empty;
then OP_BYTE iff RXQ is not empty, its data byte popped from RXQ; OP_TIMEOUT iff RXQ is empty;
OP_CLEAR iff a clear request is pending (requests add up: log entry 7). Kind 11 whenever the engine is
enabled (log entry 12). -/
def Obligations.OperationsEnabledExactly : Prop :=
  ∀ (t : Inst) (d : Byte),
    (¬ (t.started = true ∧ t.phase = .recv ∧ t.faults = Faults.empty) → ∀ w, t.selectOp w = none) ∧
    ((t.started = true ∧ t.phase = .recv ∧ t.faults = Faults.empty) →
      (∀ b q, t.rxq = b :: q → t.selectOp (0#2 ++ d) = some (0#2 ++ b, { t with rxq := q })) ∧
      (t.rxq = [] → t.selectOp (0#2 ++ d) = none) ∧
      (t.rxq = [] → t.selectOp (1#2 ++ d) = some (1#2 ++ d, t)) ∧
      (t.rxq ≠ [] → t.selectOp (1#2 ++ d) = none) ∧
      (0 < t.clearReqs → t.selectOp (2#2 ++ d) = some (2#2 ++ d, t)) ∧
      (t.clearReqs = 0 → t.selectOp (2#2 ++ d) = none) ∧
      t.selectOp (3#2 ++ d) = some (3#2 ++ d, t))

/-- The engine takes no operation before start, while it waits for a handler or the Adapter, while it
transmits, and after a fault (R112, R263, R206, R126, R173, R233). That an operation word offered then is
consumed and changes nothing is the model's choice (log entry 5). -/
def Obligations.DisabledEngineConsumesNothing : Prop :=
  ∀ (s : State) (c : Chan) (w : BitVec 10) (rest : List Event),
    s.NextEvent (.port c (.op w)) rest →
    ((s.inst c).started = false ∨ (s.inst c).phase ≠ .recv ∨ (s.inst c).faults ≠ Faults.empty) →
    step s = .next (s.during c rest)

/-- R8, R31: a step is refused exactly where the configuration breaks a constraint: exception codes
pairwise distinct, BUF_CAP at least 259, QDEPTH at least 1, and a table that is not empty, whose last
entry and no other has code 0xFF, and whose codes strictly ascend. -/
def Obligations.RefusedExactlyWhenConfigurationBreaksAConstraint : Prop :=
  ∀ s : State, step s = .refused .badConfig ↔
    ¬ (s.cfg.exc.values.Pairwise (· ≠ ·) ∧ 259 ≤ s.cfg.bufCap ∧ 1 ≤ s.cfg.qDepth ∧
      s.cfg.cmdTable ≠ [] ∧ (∀ e, s.cfg.cmdTable.getLast? = some e → e.code = 0xFF) ∧
      (∀ e ∈ s.cfg.cmdTable.dropLast, e.code ≠ 0xFF) ∧
      ∀ i e e', s.cfg.cmdTable[i]? = some e → s.cfg.cmdTable[i + 1]? = some e' → e.code < e'.code)

/-- No step of a well-formed configuration stops: whatever the next event, and whatever the bytes in it,
the machine answers a next state (R11: a model fault is a mark in FAULTS, log entry 10). -/
def Obligations.EveryStepOfWellFormedConfigurationCompletes : Prop :=
  ∀ s : State, s.cfg.wf = true → ∃ t, step s = .next t

/-- R110: rx_push, whatever STARTED, PHASE and FAULTS are: where no earlier push is still waiting, the
byte joins the tail of RXQ where there is room; else it is lost under DROP_NEW, and waits under
BLOCK_PRODUCER. The oldest waiting byte joins RXQ once there is room. (That a waiting byte is held in
the instance's record and its push completes by an event of its own is the model's choice, log entry 6.) -/
def Obligations.PushJoinsTheQueue : Prop :=
  ∀ (s : State) (c : Chan) (b : Byte) (more : List Byte) (rest : List Event),
    let t := s.inst c
    let now := s.during c rest
    (s.NextEvent (.port c (.rxPush b)) rest → t.held = [] →
      (t.rxq.length < s.cfg.qDepth → step s = .next (now.setAct { t with rxq := t.rxq ++ [b] })) ∧
      (s.cfg.qDepth ≤ t.rxq.length → s.cfg.rxqFull = .dropNew → step s = .next now) ∧
      (s.cfg.qDepth ≤ t.rxq.length → s.cfg.rxqFull = .blockProducer →
        step s = .next (now.setAct { t with held := [b] }))) ∧
    (s.NextEvent (.port c .rxResume) rest → t.held = b :: more →
      (t.rxq.length < s.cfg.qDepth →
        step s = .next (now.setAct { t with rxq := t.rxq ++ [b], held := more })) ∧
      (s.cfg.qDepth ≤ t.rxq.length → step s = .next now))

/-- R26, R33-R36, R38, R265: start sets STARTED and cfg_write CRC_CHECK_EN (in an instance without a fault:
log entry 10); a clear request becomes pending (log entry 7); a level input changes its level and
nothing else, so that no change clears BUF. -/
def Obligations.ControlInputsChangeOnlyTheirOwn : Prop :=
  ∀ (s : State) (c : Chan) (v : Bool) (p : BitVec 2) (rest : List Event),
    let t := s.inst c
    let now := s.during c rest
    (t.faults = Faults.empty → s.NextEvent (.port c .start) rest →
      step s = .next (now.setAct { t with started := true })) ∧
    (t.faults = Faults.empty → s.NextEvent (.port c (.cfgWrite v)) rest →
      step s = .next (now.setAct { t with crcCheckEn := v })) ∧
    (s.NextEvent (.port c .clear) rest →
      step s = .next (now.setAct { t with clearReqs := t.clearReqs + 1 })) ∧
    (s.NextEvent (.port c (.setAsciiMode v)) rest →
      step s = .next (now.setAct { t with asciiMode := v })) ∧
    (s.NextEvent (.port c (.setSessionPerm p)) rest →
      step s = .next (now.setAct { t with sessionPerm := p })) ∧
    (s.NextEvent (.setAsleep v) rest →
      step s = .next { s with sysAsleep := v, inputs := rest })

/-! ### The whole machine -/

/-- R67 (c), R206: the wire of an instance grows only in a TX acceptance of that instance, by the byte of
RSP at RSP_POS. -/
def Obligations.OnlyTransmitStepsWriteTheWire : Prop :=
  ∀ (s t : State) (e : Event) (rest : List Event) (c : Chan), s.NextEvent e rest → step s = .next t →
    (t.inst c).tx = (s.inst c).tx ∨
    (e = .port c .txAccept ∧ (s.inst c).phase = .txDrain ∧
      ∃ b, (s.inst c).rsp[(s.inst c).rspPos]? = some b ∧ (t.inst c).tx = (s.inst c).tx ++ [b])

/-- The invariant of Safety.lean is kept by every step, from every state that has it: the bounds of R22,
R24, R28, the relations of PHASE to RSP, BUF and DISP_OUTCOME, at most one fault, the start gate. -/
def Obligations.EveryStepKeepsTheInvariant : Prop :=
  ∀ s t : State, s.Inv → step s = .next t → t.Inv

/-- The invariant and the shape of BUF hold after reset, under every configuration. -/
def Obligations.InvariantHoldsAfterReset : Prop :=
  State.reset.Inv ∧ State.reset.BinaryBuf ∧
  ∀ cfg : Config, (State.initial cfg).Inv ∧ (State.initial cfg).BinaryBuf

/-- R164, R115: in binary mode BUF is empty or an incomplete frame at an accepted address, and every step
keeps it so, but one in which ASCII_MODE changes (R265). -/
def Obligations.BinaryBufNeverHoldsACompleteFrame : Prop :=
  ∀ s t : State, s.BinaryBuf → (∀ c v rest, s.inputs ≠ .port c (.setAsciiMode v) :: rest) →
    step s = .next t → t.BinaryBuf

/-- R164: from such a BUF a frame is processed at exactly |s| = 4 + n: when one more byte completes it,
BUF is that frame's bytes and nothing more. -/
def Obligations.FrameIsProcessedAtExactlyItsLength : Prop :=
  ∀ (buf : List Byte) (b : Byte), codecBinary buf = .processing →
    codecBinary (buf ++ [b]) = .completeFrame →
    ∃ (F : Frame) (n : Byte), F.bytes = buf ++ [b] ∧ parseFrame (buf ++ [b]) = some (F, []) ∧
      (buf ++ [b])[2]? = some n ∧ (buf ++ [b]).length = 4 + n.toNat

/-- R32, R37: no step writes the command table or any other static parameter. -/
def Obligations.ConfigurationNeverChanges : Prop :=
  ∀ s t : State, step s = .next t → t.cfg = s.cfg

/-- R236, R68: an event at a port of one instance leaves the other instance, SYS_ASLEEP and the events to
come as they are. -/
def Obligations.OtherInstanceIsUntouched : Prop :=
  ∀ (s t : State) (c : Chan) (e : PortEvent) (rest : List Event),
    s.NextEvent (.port c e) rest → step s = .next t →
    (∀ d, d ≠ c → t.inst d = s.inst d) ∧ t.sysAsleep = s.sysAsleep ∧ t.inputs = rest

/-- R236: no signal passes between the instances. Two machines with the same parameters, SYS_ASLEEP and
instance `c`, whatever the other instance is, do the same to `c` in any event. -/
def Obligations.InstanceDoesNotDependOnTheOther : Prop :=
  ∀ (s s' t t' : State) (c : Chan) (e : Event) (rest rest' : List Event),
    s.NextEvent e rest → s'.NextEvent e rest' →
    s.cfg = s'.cfg → s.sysAsleep = s'.sysAsleep → s.inst c = s'.inst c →
    step s = .next t → step s' = .next t' → t.inst c = t'.inst c ∧ t.sysAsleep = t'.sysAsleep

/-- R260: the reset input sets every element of R22 of both instances, discards the pending clear
requests, and leaves the levels and the parameters. (That a blocked push is discarded and the record
of the ports kept is the model's choice, log entries 6 and 9.) -/
def Obligations.ResetSetsEveryElement : Prop :=
  ∀ (s : State) (rest : List Event), s.NextEvent .reset rest →
    ∃ t, step s = .next t ∧ t.cfg = s.cfg ∧ t.sysAsleep = s.sysAsleep ∧ t.inputs = rest ∧
      ∀ c, t.inst c = { Inst.initial s.cfg with
        asciiMode := (s.inst c).asciiMode, sessionPerm := (s.inst c).sessionPerm, tx := (s.inst c).tx,
        live := (s.inst c).live, handlerReqs := (s.inst c).handlerReqs, asciiReqs := (s.inst c).asciiReqs }

/-- R26, R33: STARTED is set by start alone and cleared by reset alone; CRC_CHECK_EN is written by
cfg_write and by reset alone. -/
def Obligations.GateAndCrcEnableWritesAreTheNamedOnes : Prop :=
  ∀ (s t : State) (e : Event) (rest : List Event) (c : Chan), s.NextEvent e rest → step s = .next t →
    ((t.inst c).started ≠ (s.inst c).started →
      (e = .reset ∧ (t.inst c).started = false) ∨ (e = .port c .start ∧ (t.inst c).started = true)) ∧
    ((t.inst c).crcCheckEn ≠ (s.inst c).crcCheckEn →
      (e = .reset ∧ (t.inst c).crcCheckEn = true) ∨
      ∃ v, e = .port c (.cfgWrite v) ∧ (t.inst c).crcCheckEn = v)

/-- A faulted instance takes no engine operation, no port return and no TX step, while rx_push still
enqueues (R233, R29). That start and cfg_write change nothing in it either is the model's choice (log
entry 10), and so is that clear requests are still accepted (log entry 7). So, but for reset, nothing of it
changes except what the RX producer, the clear port and the environment's levels write. -/
def Obligations.FaultedInstanceTakesNoStep : Prop :=
  ∀ (s t : State) (e : Event) (rest : List Event) (c : Chan),
    s.NextEvent e rest → step s = .next t → e ≠ .reset → (s.inst c).faults ≠ Faults.empty →
    t.inst c = { s.inst c with
      rxq := (t.inst c).rxq, held := (t.inst c).held, clearReqs := (t.inst c).clearReqs,
      asciiMode := (t.inst c).asciiMode, sessionPerm := (t.inst c).sessionPerm } ∧
    ∃ pushed, (t.inst c).rxq = (s.inst c).rxq ++ pushed

/-- R40: liveness: ALIVE at an OP_BYTE, ASLEEP at an OP_TIMEOUT, of the instance that takes it, and no
report in any other step. -/
def Obligations.LivenessReportsAreExact : Prop :=
  ∀ (s t : State) (e : Event) (rest : List Event) (c : Chan), s.NextEvent e rest → step s = .next t →
    ((∃ w w' u, e = .port c (.op w) ∧ (s.inst c).selectOp w = some (w', u) ∧ opKind w = 0) →
      (t.inst c).live = (s.inst c).live ++ [.alive]) ∧
    ((∃ w w' u, e = .port c (.op w) ∧ (s.inst c).selectOp w = some (w', u) ∧ opKind w = 1) →
      (t.inst c).live = (s.inst c).live ++ [.asleep]) ∧
    ((¬ ∃ w w' u, e = .port c (.op w) ∧ (s.inst c).selectOp w = some (w', u) ∧
        (opKind w = 0 ∨ opKind w = 1)) →
      (t.inst c).live = (s.inst c).live)

/-- R67 (a): RXQ is strictly FIFO: in every step but a reset it is unchanged, gains one byte at its tail,
or loses its head to an OP_BYTE. -/
def Obligations.ReceiveQueueIsFifo : Prop :=
  ∀ (s t : State) (e : Event) (rest : List Event) (c : Chan), s.NextEvent e rest → step s = .next t →
    e ≠ .reset →
    (t.inst c).rxq = (s.inst c).rxq ∨
    (∃ b, (t.inst c).rxq = (s.inst c).rxq ++ [b] ∧
      (e = .port c (.rxPush b) ∨ e = .port c .rxResume ∧ (s.inst c).held.head? = some b)) ∨
    (∃ b w, (s.inst c).rxq = b :: (t.inst c).rxq ∧ e = .port c (.op w) ∧ opKind w = 0)

/-- R66, R25: CUR_ADDR changes only to an accepted address, or at a reset. -/
def Obligations.CurrentAddressIsAnAcceptedOne : Prop :=
  ∀ (s t : State) (e : Event) (rest : List Event) (c : Chan), s.NextEvent e rest → step s = .next t →
    (t.inst c).curAddr ≠ (s.inst c).curAddr →
    accepts s.cfg (t.inst c).curAddr = true ∧ (e = .reset ∨ ∃ w, e = .port c (.op w))
end

