-- ==== Sys2Proof/Laws/Crc.lean ====
section
/-! SUPPORT. The CRC register, byte by byte. -/

namespace Sys2Proof.Machine

/-- The CRC register after a byte sequence, before the end of the computation. -/
def crcRegister (p : CrcParams) (s : List Byte) : Byte := s.foldl (crcByte p) p.init

theorem crc8_eq (p : CrcParams) (s : List Byte) : crc8 p s = crcFinish p (crcRegister p s) := rfl

@[simp] theorem crcRegister_nil (p : CrcParams) : crcRegister p [] = p.init := rfl

theorem crcRegister_append (p : CrcParams) (s t : List Byte) :
    crcRegister p (s ++ t) = t.foldl (crcByte p) (crcRegister p s) := by
  simp [crcRegister]

theorem crcRegister_snoc (p : CrcParams) (s : List Byte) (b : Byte) :
    crcRegister p (s ++ [b]) = crcByte p (crcRegister p s) b := by
  simp [crcRegister_append]

theorem crcShifts_zero (poly : Byte) (n : Nat) : crcShifts poly n 0 = 0 := by
  induction n with
  | zero => rfl
  | succ n ih => simpa [crcShifts, crcShift] using ih

@[simp] theorem appendCrc_length (p : CrcParams) (r : List Byte) : (appendCrc p r).length = r.length + 1 := by
  simp [appendCrc]

end Sys2Proof.Machine
end

