-- ==== Sys2Proof/Laws/Frame.lean ====
section
/-! SUPPORT. What the frame and line parsers answer. -/

namespace Sys2Proof.Machine

theorem lenByte_toNat {d : List Byte} (h : d.length ≤ 255) : (lenByte d).toNat = d.length := by
  simp only [lenByte, BitVec.toNat_ofNat]
  omega

@[simp] theorem Frame.covered_length (F : Frame) : F.covered.length = 3 + F.data.length := by
  simp [Frame.covered]
  omega

@[simp] theorem Frame.bytes_length (F : Frame) : F.bytes.length = 4 + F.data.length := by
  simp [Frame.bytes]
  omega

theorem Frame.bytes_eq (F : Frame) :
    F.bytes = F.addr :: F.func :: lenByte F.data :: (F.data ++ [F.crc]) := rfl

/-- The parser answers the frame that stands at the front, and what follows it. -/
theorem parseFrame_bytes_append (F : Frame) (h : F.data.length ≤ 255) (after : List Byte) :
    parseFrame (F.bytes ++ after) = some (F, after) := by
  simp [Frame.bytes_eq, parseFrame, lenByte_toNat h]

theorem parseFrame_bytes (F : Frame) (h : F.data.length ≤ 255) : parseFrame F.bytes = some (F, []) := by
  simpa using parseFrame_bytes_append F h []

/-- What the parser answers stands at the front. -/
theorem parseFrame_some {s after : List Byte} {F : Frame} (h : parseFrame s = some (F, after)) :
    s = F.bytes ++ after ∧ F.data.length ≤ 255 := by
  unfold parseFrame at h
  split at h
  · rename_i a f n rest
    split at h
    · cases h
    · rename_i c tail hd
      cases h
      have hlen : n.toNat < rest.length := by
        have := congrArg List.length hd
        simp at this
        omega
      have ht : (rest.take n.toNat).length = n.toNat := by simp; omega
      have hn := n.isLt
      refine ⟨?_, by show (rest.take n.toNat).length ≤ 255; omega⟩
      have hl : lenByte (rest.take n.toNat) = n := by
        apply BitVec.eq_of_toNat_eq
        rw [lenByte_toNat (by omega), ht]
      simp only [Frame.bytes_eq, hl, List.cons_append, List.append_assoc, List.nil_append, List.cons.injEq, true_and]
      rw [← hd, List.take_append_drop]
  · cases h

/-- The parser answers exactly where the codec says CompleteFrame (R117, R164). -/
theorem parseFrame_none_iff (s : List Byte) : parseFrame s = none ↔ codecBinary s = .processing := by
  match s with
  | [] => simp [parseFrame, codecBinary]
  | [_] => simp [parseFrame, codecBinary]
  | [_, _] => simp [parseFrame, codecBinary]
  | a :: f :: n :: rest =>
    simp only [parseFrame, codecBinary, List.length_cons]
    cases h : rest.drop n.toNat with
    | nil =>
      have := List.drop_eq_nil_iff.mp h
      simp
      omega
    | cons c tail =>
      have := congrArg List.length h
      simp at this
      simp
      omega

theorem parseLine_lineBytes (c : List Byte) : parseLine (lineBytes c) = some c := by
  simp [parseLine, lineBytes]

theorem parseLine_some {s c : List Byte} (h : parseLine s = some c) : s = lineBytes c := by
  unfold parseLine at h
  split at h
  · rename_i hs
    cases h
    unfold lineBytes
    rw [← hs.2, List.take_append_drop]
  · cases h

end Sys2Proof.Machine
end

