-- ==== Sys2Proof/Laws/State.lean ====
section
/-! SUPPORT. One lemma per field per update of the state, true by rfl (or by cases on the channel). -/

namespace Sys2Proof.Machine

/-! ### The machine around one instance -/

@[simp] theorem State.inst_usb (s : State) : s.inst .usb = s.usb := rfl
@[simp] theorem State.inst_mod (s : State) : s.inst .mod = s.mod := rfl
@[simp] theorem State.inst_setInst_same (s : State) (c : Chan) (t : Inst) : (s.setInst c t).inst c = t := by
  cases c <;> rfl
theorem State.inst_setInst_ne (s : State) {c d : Chan} (t : Inst) (h : d ≠ c) :
    (s.setInst c t).inst d = s.inst d := by
  cases c <;> cases d <;> first | rfl | exact absurd rfl h
@[simp] theorem State.setInst_cfg (s : State) (c : Chan) (t : Inst) : (s.setInst c t).cfg = s.cfg := by
  cases c <;> rfl
@[simp] theorem State.setInst_sysAsleep (s : State) (c : Chan) (t : Inst) : (s.setInst c t).sysAsleep = s.sysAsleep := by
  cases c <;> rfl
@[simp] theorem State.setInst_active (s : State) (c : Chan) (t : Inst) : (s.setInst c t).active = s.active := by
  cases c <;> rfl
@[simp] theorem State.setInst_inputs (s : State) (c : Chan) (t : Inst) : (s.setInst c t).inputs = s.inputs := by
  cases c <;> rfl
@[simp] theorem State.setAct_cfg (s : State) (t : Inst) : (s.setAct t).cfg = s.cfg :=
  State.setInst_cfg s s.active t
@[simp] theorem State.setAct_sysAsleep (s : State) (t : Inst) : (s.setAct t).sysAsleep = s.sysAsleep :=
  State.setInst_sysAsleep s s.active t
@[simp] theorem State.setAct_active (s : State) (t : Inst) : (s.setAct t).active = s.active :=
  State.setInst_active s s.active t
@[simp] theorem State.setAct_inputs (s : State) (t : Inst) : (s.setAct t).inputs = s.inputs :=
  State.setInst_inputs s s.active t
@[simp] theorem State.act_setAct (s : State) (t : Inst) : (s.setAct t).act = t := by
  simp [State.act, State.setAct]
@[simp] theorem State.inst_setAct_active (s : State) (t : Inst) : (s.setAct t).inst s.active = t :=
  State.inst_setInst_same s s.active t
theorem State.inst_setAct_ne (s : State) {c : Chan} (t : Inst) (h : c ≠ s.active) :
    (s.setAct t).inst c = s.inst c := State.inst_setInst_ne s t h
theorem State.inst_setAct (s : State) (t : Inst) (c : Chan) :
    (s.setAct t).inst c = if c = s.active then t else s.inst c := by
  split
  · rename_i h; rw [h]; exact s.inst_setAct_active t
  · exact s.inst_setAct_ne t ‹_›
theorem State.setAct_act (s : State) : s.setAct s.act = s := by
  cases s with | mk _ _ _ _ a _ => cases a <;> rfl
@[simp] theorem State.setAct_setAct (s : State) (t u : Inst) : (s.setAct t).setAct u = s.setAct u := by
  cases s with | mk _ _ _ _ a _ => cases a <;> rfl
@[simp] theorem State.inst_doReset (s : State) (c : Chan) : s.doReset.inst c = (s.inst c).doReset s.cfg := by
  cases c <;> rfl
@[simp] theorem State.doReset_cfg (s : State) : s.doReset.cfg = s.cfg := rfl
@[simp] theorem State.doReset_sysAsleep (s : State) : s.doReset.sysAsleep = s.sysAsleep := rfl
@[simp] theorem State.doReset_active (s : State) : s.doReset.active = s.active := rfl
@[simp] theorem State.doReset_inputs (s : State) : s.doReset.inputs = s.inputs := rfl
@[simp] theorem State.inst_inputs (s : State) (l : List Event) (c : Chan) :
    State.inst { s with inputs := l } c = s.inst c := by cases c <;> rfl
@[simp] theorem State.inst_active (s : State) (a c : Chan) :
    State.inst { s with active := a } c = s.inst c := by cases c <;> rfl
@[simp] theorem State.inst_sysAsleep (s : State) (v : Bool) (c : Chan) :
    State.inst { s with sysAsleep := v } c = s.inst c := by cases c <;> rfl

/-! ### Inst.report -/

@[simp] theorem Inst.report_rxq (l : Liveness) (t : Inst) : (t.report l).rxq = t.rxq := rfl
@[simp] theorem Inst.report_buf (l : Liveness) (t : Inst) : (t.report l).buf = t.buf := rfl
@[simp] theorem Inst.report_curAddr (l : Liveness) (t : Inst) : (t.report l).curAddr = t.curAddr := rfl
@[simp] theorem Inst.report_started (l : Liveness) (t : Inst) : (t.report l).started = t.started := rfl
@[simp] theorem Inst.report_phase (l : Liveness) (t : Inst) : (t.report l).phase = t.phase := rfl
@[simp] theorem Inst.report_rsp (l : Liveness) (t : Inst) : (t.report l).rsp = t.rsp := rfl
@[simp] theorem Inst.report_rspPos (l : Liveness) (t : Inst) : (t.report l).rspPos = t.rspPos := rfl
@[simp] theorem Inst.report_crcCheckEn (l : Liveness) (t : Inst) : (t.report l).crcCheckEn = t.crcCheckEn := rfl
@[simp] theorem Inst.report_frameState (l : Liveness) (t : Inst) : (t.report l).frameState = t.frameState := rfl
@[simp] theorem Inst.report_dispOutcome (l : Liveness) (t : Inst) : (t.report l).dispOutcome = t.dispOutcome := rfl
@[simp] theorem Inst.report_faults (l : Liveness) (t : Inst) : (t.report l).faults = t.faults := rfl
@[simp] theorem Inst.report_clearReqs (l : Liveness) (t : Inst) : (t.report l).clearReqs = t.clearReqs := rfl
@[simp] theorem Inst.report_held (l : Liveness) (t : Inst) : (t.report l).held = t.held := rfl
@[simp] theorem Inst.report_asciiMode (l : Liveness) (t : Inst) : (t.report l).asciiMode = t.asciiMode := rfl
@[simp] theorem Inst.report_sessionPerm (l : Liveness) (t : Inst) : (t.report l).sessionPerm = t.sessionPerm := rfl
@[simp] theorem Inst.report_tx (l : Liveness) (t : Inst) : (t.report l).tx = t.tx := rfl
@[simp] theorem Inst.report_live (l : Liveness) (t : Inst) : (t.report l).live = t.live ++ [l] := rfl
@[simp] theorem Inst.report_handlerReqs (l : Liveness) (t : Inst) : (t.report l).handlerReqs = t.handlerReqs := rfl
@[simp] theorem Inst.report_asciiReqs (l : Liveness) (t : Inst) : (t.report l).asciiReqs = t.asciiReqs := rfl

/-! ### Inst.raise -/

@[simp] theorem Inst.raise_rxq (f : Fault) (t : Inst) : (t.raise f).rxq = t.rxq := rfl
@[simp] theorem Inst.raise_buf (f : Fault) (t : Inst) : (t.raise f).buf = t.buf := rfl
@[simp] theorem Inst.raise_curAddr (f : Fault) (t : Inst) : (t.raise f).curAddr = t.curAddr := rfl
@[simp] theorem Inst.raise_started (f : Fault) (t : Inst) : (t.raise f).started = t.started := rfl
@[simp] theorem Inst.raise_phase (f : Fault) (t : Inst) : (t.raise f).phase = t.phase := rfl
@[simp] theorem Inst.raise_rsp (f : Fault) (t : Inst) : (t.raise f).rsp = t.rsp := rfl
@[simp] theorem Inst.raise_rspPos (f : Fault) (t : Inst) : (t.raise f).rspPos = t.rspPos := rfl
@[simp] theorem Inst.raise_crcCheckEn (f : Fault) (t : Inst) : (t.raise f).crcCheckEn = t.crcCheckEn := rfl
@[simp] theorem Inst.raise_frameState (f : Fault) (t : Inst) : (t.raise f).frameState = t.frameState := rfl
@[simp] theorem Inst.raise_dispOutcome (f : Fault) (t : Inst) : (t.raise f).dispOutcome = t.dispOutcome := rfl
@[simp] theorem Inst.raise_faults (f : Fault) (t : Inst) : (t.raise f).faults = t.faults.add f := rfl
@[simp] theorem Inst.raise_clearReqs (f : Fault) (t : Inst) : (t.raise f).clearReqs = t.clearReqs := rfl
@[simp] theorem Inst.raise_held (f : Fault) (t : Inst) : (t.raise f).held = t.held := rfl
@[simp] theorem Inst.raise_asciiMode (f : Fault) (t : Inst) : (t.raise f).asciiMode = t.asciiMode := rfl
@[simp] theorem Inst.raise_sessionPerm (f : Fault) (t : Inst) : (t.raise f).sessionPerm = t.sessionPerm := rfl
@[simp] theorem Inst.raise_tx (f : Fault) (t : Inst) : (t.raise f).tx = t.tx := rfl
@[simp] theorem Inst.raise_live (f : Fault) (t : Inst) : (t.raise f).live = t.live := rfl
@[simp] theorem Inst.raise_handlerReqs (f : Fault) (t : Inst) : (t.raise f).handlerReqs = t.handlerReqs := rfl
@[simp] theorem Inst.raise_asciiReqs (f : Fault) (t : Inst) : (t.raise f).asciiReqs = t.asciiReqs := rfl

/-! ### Inst.processing -/

@[simp] theorem Inst.processing_rxq (t : Inst) : (t.processing).rxq = t.rxq := rfl
@[simp] theorem Inst.processing_buf (t : Inst) : (t.processing).buf = t.buf := rfl
@[simp] theorem Inst.processing_curAddr (t : Inst) : (t.processing).curAddr = t.curAddr := rfl
@[simp] theorem Inst.processing_started (t : Inst) : (t.processing).started = t.started := rfl
@[simp] theorem Inst.processing_phase (t : Inst) : (t.processing).phase = t.phase := rfl
@[simp] theorem Inst.processing_rsp (t : Inst) : (t.processing).rsp = t.rsp := rfl
@[simp] theorem Inst.processing_rspPos (t : Inst) : (t.processing).rspPos = t.rspPos := rfl
@[simp] theorem Inst.processing_crcCheckEn (t : Inst) : (t.processing).crcCheckEn = t.crcCheckEn := rfl
@[simp] theorem Inst.processing_frameState (t : Inst) : (t.processing).frameState = t.frameState := rfl
@[simp] theorem Inst.processing_dispOutcome (t : Inst) : (t.processing).dispOutcome = .processing := rfl
@[simp] theorem Inst.processing_faults (t : Inst) : (t.processing).faults = t.faults := rfl
@[simp] theorem Inst.processing_clearReqs (t : Inst) : (t.processing).clearReqs = t.clearReqs := rfl
@[simp] theorem Inst.processing_held (t : Inst) : (t.processing).held = t.held := rfl
@[simp] theorem Inst.processing_asciiMode (t : Inst) : (t.processing).asciiMode = t.asciiMode := rfl
@[simp] theorem Inst.processing_sessionPerm (t : Inst) : (t.processing).sessionPerm = t.sessionPerm := rfl
@[simp] theorem Inst.processing_tx (t : Inst) : (t.processing).tx = t.tx := rfl
@[simp] theorem Inst.processing_live (t : Inst) : (t.processing).live = t.live := rfl
@[simp] theorem Inst.processing_handlerReqs (t : Inst) : (t.processing).handlerReqs = t.handlerReqs := rfl
@[simp] theorem Inst.processing_asciiReqs (t : Inst) : (t.processing).asciiReqs = t.asciiReqs := rfl

/-! ### Inst.doneSilent -/

@[simp] theorem Inst.doneSilent_rxq (t : Inst) : (t.doneSilent).rxq = t.rxq := rfl
@[simp] theorem Inst.doneSilent_buf (t : Inst) : (t.doneSilent).buf = [] := rfl
@[simp] theorem Inst.doneSilent_curAddr (t : Inst) : (t.doneSilent).curAddr = t.curAddr := rfl
@[simp] theorem Inst.doneSilent_started (t : Inst) : (t.doneSilent).started = t.started := rfl
@[simp] theorem Inst.doneSilent_phase (t : Inst) : (t.doneSilent).phase = t.phase := rfl
@[simp] theorem Inst.doneSilent_rsp (t : Inst) : (t.doneSilent).rsp = t.rsp := rfl
@[simp] theorem Inst.doneSilent_rspPos (t : Inst) : (t.doneSilent).rspPos = t.rspPos := rfl
@[simp] theorem Inst.doneSilent_crcCheckEn (t : Inst) : (t.doneSilent).crcCheckEn = t.crcCheckEn := rfl
@[simp] theorem Inst.doneSilent_frameState (t : Inst) : (t.doneSilent).frameState = t.frameState := rfl
@[simp] theorem Inst.doneSilent_dispOutcome (t : Inst) : (t.doneSilent).dispOutcome = .doneSilent := rfl
@[simp] theorem Inst.doneSilent_faults (t : Inst) : (t.doneSilent).faults = t.faults := rfl
@[simp] theorem Inst.doneSilent_clearReqs (t : Inst) : (t.doneSilent).clearReqs = t.clearReqs := rfl
@[simp] theorem Inst.doneSilent_held (t : Inst) : (t.doneSilent).held = t.held := rfl
@[simp] theorem Inst.doneSilent_asciiMode (t : Inst) : (t.doneSilent).asciiMode = t.asciiMode := rfl
@[simp] theorem Inst.doneSilent_sessionPerm (t : Inst) : (t.doneSilent).sessionPerm = t.sessionPerm := rfl
@[simp] theorem Inst.doneSilent_tx (t : Inst) : (t.doneSilent).tx = t.tx := rfl
@[simp] theorem Inst.doneSilent_live (t : Inst) : (t.doneSilent).live = t.live := rfl
@[simp] theorem Inst.doneSilent_handlerReqs (t : Inst) : (t.doneSilent).handlerReqs = t.handlerReqs := rfl
@[simp] theorem Inst.doneSilent_asciiReqs (t : Inst) : (t.doneSilent).asciiReqs = t.asciiReqs := rfl

/-! ### Inst.doneError -/

@[simp] theorem Inst.doneError_rxq (t : Inst) : (t.doneError).rxq = t.rxq := rfl
@[simp] theorem Inst.doneError_buf (t : Inst) : (t.doneError).buf = [] := rfl
@[simp] theorem Inst.doneError_curAddr (t : Inst) : (t.doneError).curAddr = t.curAddr := rfl
@[simp] theorem Inst.doneError_started (t : Inst) : (t.doneError).started = t.started := rfl
@[simp] theorem Inst.doneError_phase (t : Inst) : (t.doneError).phase = t.phase := rfl
@[simp] theorem Inst.doneError_rsp (t : Inst) : (t.doneError).rsp = t.rsp := rfl
@[simp] theorem Inst.doneError_rspPos (t : Inst) : (t.doneError).rspPos = t.rspPos := rfl
@[simp] theorem Inst.doneError_crcCheckEn (t : Inst) : (t.doneError).crcCheckEn = t.crcCheckEn := rfl
@[simp] theorem Inst.doneError_frameState (t : Inst) : (t.doneError).frameState = .error := rfl
@[simp] theorem Inst.doneError_dispOutcome (t : Inst) : (t.doneError).dispOutcome = .doneError := rfl
@[simp] theorem Inst.doneError_faults (t : Inst) : (t.doneError).faults = t.faults := rfl
@[simp] theorem Inst.doneError_clearReqs (t : Inst) : (t.doneError).clearReqs = t.clearReqs := rfl
@[simp] theorem Inst.doneError_held (t : Inst) : (t.doneError).held = t.held := rfl
@[simp] theorem Inst.doneError_asciiMode (t : Inst) : (t.doneError).asciiMode = t.asciiMode := rfl
@[simp] theorem Inst.doneError_sessionPerm (t : Inst) : (t.doneError).sessionPerm = t.sessionPerm := rfl
@[simp] theorem Inst.doneError_tx (t : Inst) : (t.doneError).tx = t.tx := rfl
@[simp] theorem Inst.doneError_live (t : Inst) : (t.doneError).live = t.live := rfl
@[simp] theorem Inst.doneError_handlerReqs (t : Inst) : (t.doneError).handlerReqs = t.handlerReqs := rfl
@[simp] theorem Inst.doneError_asciiReqs (t : Inst) : (t.doneError).asciiReqs = t.asciiReqs := rfl

/-! ### Inst.accumulate -/

@[simp] theorem Inst.accumulate_rxq (b : Byte) (t : Inst) : (t.accumulate b).rxq = t.rxq := rfl
@[simp] theorem Inst.accumulate_buf (b : Byte) (t : Inst) : (t.accumulate b).buf = t.buf ++ [b] := rfl
@[simp] theorem Inst.accumulate_curAddr (b : Byte) (t : Inst) : (t.accumulate b).curAddr = t.curAddr := rfl
@[simp] theorem Inst.accumulate_started (b : Byte) (t : Inst) : (t.accumulate b).started = t.started := rfl
@[simp] theorem Inst.accumulate_phase (b : Byte) (t : Inst) : (t.accumulate b).phase = t.phase := rfl
@[simp] theorem Inst.accumulate_rsp (b : Byte) (t : Inst) : (t.accumulate b).rsp = t.rsp := rfl
@[simp] theorem Inst.accumulate_rspPos (b : Byte) (t : Inst) : (t.accumulate b).rspPos = t.rspPos := rfl
@[simp] theorem Inst.accumulate_crcCheckEn (b : Byte) (t : Inst) : (t.accumulate b).crcCheckEn = t.crcCheckEn := rfl
@[simp] theorem Inst.accumulate_frameState (b : Byte) (t : Inst) : (t.accumulate b).frameState = codecState t.asciiMode (t.buf ++ [b]) := rfl
@[simp] theorem Inst.accumulate_dispOutcome (b : Byte) (t : Inst) : (t.accumulate b).dispOutcome = t.dispOutcome := rfl
@[simp] theorem Inst.accumulate_faults (b : Byte) (t : Inst) : (t.accumulate b).faults = t.faults := rfl
@[simp] theorem Inst.accumulate_clearReqs (b : Byte) (t : Inst) : (t.accumulate b).clearReqs = t.clearReqs := rfl
@[simp] theorem Inst.accumulate_held (b : Byte) (t : Inst) : (t.accumulate b).held = t.held := rfl
@[simp] theorem Inst.accumulate_asciiMode (b : Byte) (t : Inst) : (t.accumulate b).asciiMode = t.asciiMode := rfl
@[simp] theorem Inst.accumulate_sessionPerm (b : Byte) (t : Inst) : (t.accumulate b).sessionPerm = t.sessionPerm := rfl
@[simp] theorem Inst.accumulate_tx (b : Byte) (t : Inst) : (t.accumulate b).tx = t.tx := rfl
@[simp] theorem Inst.accumulate_live (b : Byte) (t : Inst) : (t.accumulate b).live = t.live := rfl
@[simp] theorem Inst.accumulate_handlerReqs (b : Byte) (t : Inst) : (t.accumulate b).handlerReqs = t.handlerReqs := rfl
@[simp] theorem Inst.accumulate_asciiReqs (b : Byte) (t : Inst) : (t.accumulate b).asciiReqs = t.asciiReqs := rfl

/-! ### Inst.startTx -/

@[simp] theorem Inst.startTx_rxq (r : List Byte) (t : Inst) : (t.startTx r).rxq = t.rxq := rfl
@[simp] theorem Inst.startTx_buf (r : List Byte) (t : Inst) : (t.startTx r).buf = t.buf := rfl
@[simp] theorem Inst.startTx_curAddr (r : List Byte) (t : Inst) : (t.startTx r).curAddr = t.curAddr := rfl
@[simp] theorem Inst.startTx_started (r : List Byte) (t : Inst) : (t.startTx r).started = t.started := rfl
@[simp] theorem Inst.startTx_phase (r : List Byte) (t : Inst) : (t.startTx r).phase = .txDrain := rfl
@[simp] theorem Inst.startTx_rsp (r : List Byte) (t : Inst) : (t.startTx r).rsp = r := rfl
@[simp] theorem Inst.startTx_rspPos (r : List Byte) (t : Inst) : (t.startTx r).rspPos = 0 := rfl
@[simp] theorem Inst.startTx_crcCheckEn (r : List Byte) (t : Inst) : (t.startTx r).crcCheckEn = t.crcCheckEn := rfl
@[simp] theorem Inst.startTx_frameState (r : List Byte) (t : Inst) : (t.startTx r).frameState = t.frameState := rfl
@[simp] theorem Inst.startTx_dispOutcome (r : List Byte) (t : Inst) : (t.startTx r).dispOutcome = t.dispOutcome := rfl
@[simp] theorem Inst.startTx_faults (r : List Byte) (t : Inst) : (t.startTx r).faults = t.faults := rfl
@[simp] theorem Inst.startTx_clearReqs (r : List Byte) (t : Inst) : (t.startTx r).clearReqs = t.clearReqs := rfl
@[simp] theorem Inst.startTx_held (r : List Byte) (t : Inst) : (t.startTx r).held = t.held := rfl
@[simp] theorem Inst.startTx_asciiMode (r : List Byte) (t : Inst) : (t.startTx r).asciiMode = t.asciiMode := rfl
@[simp] theorem Inst.startTx_sessionPerm (r : List Byte) (t : Inst) : (t.startTx r).sessionPerm = t.sessionPerm := rfl
@[simp] theorem Inst.startTx_tx (r : List Byte) (t : Inst) : (t.startTx r).tx = t.tx := rfl
@[simp] theorem Inst.startTx_live (r : List Byte) (t : Inst) : (t.startTx r).live = t.live := rfl
@[simp] theorem Inst.startTx_handlerReqs (r : List Byte) (t : Inst) : (t.startTx r).handlerReqs = t.handlerReqs := rfl
@[simp] theorem Inst.startTx_asciiReqs (r : List Byte) (t : Inst) : (t.startTx r).asciiReqs = t.asciiReqs := rfl

/-! ### Inst.respondNack -/

@[simp] theorem Inst.respondNack_rxq (cfg : Config) (f e : Byte) (t : Inst) : (t.respondNack cfg f e).rxq = t.rxq := rfl
@[simp] theorem Inst.respondNack_buf (cfg : Config) (f e : Byte) (t : Inst) : (t.respondNack cfg f e).buf = [] := rfl
@[simp] theorem Inst.respondNack_curAddr (cfg : Config) (f e : Byte) (t : Inst) : (t.respondNack cfg f e).curAddr = t.curAddr := rfl
@[simp] theorem Inst.respondNack_started (cfg : Config) (f e : Byte) (t : Inst) : (t.respondNack cfg f e).started = t.started := rfl
@[simp] theorem Inst.respondNack_phase (cfg : Config) (f e : Byte) (t : Inst) : (t.respondNack cfg f e).phase = .txDrain := rfl
@[simp] theorem Inst.respondNack_rsp (cfg : Config) (f e : Byte) (t : Inst) : (t.respondNack cfg f e).rsp = appendCrc cfg.crc (encodeNack t.curAddr f e) := rfl
@[simp] theorem Inst.respondNack_rspPos (cfg : Config) (f e : Byte) (t : Inst) : (t.respondNack cfg f e).rspPos = 0 := rfl
@[simp] theorem Inst.respondNack_crcCheckEn (cfg : Config) (f e : Byte) (t : Inst) : (t.respondNack cfg f e).crcCheckEn = t.crcCheckEn := rfl
@[simp] theorem Inst.respondNack_frameState (cfg : Config) (f e : Byte) (t : Inst) : (t.respondNack cfg f e).frameState = t.frameState := rfl
@[simp] theorem Inst.respondNack_dispOutcome (cfg : Config) (f e : Byte) (t : Inst) : (t.respondNack cfg f e).dispOutcome = .doneResponse := rfl
@[simp] theorem Inst.respondNack_faults (cfg : Config) (f e : Byte) (t : Inst) : (t.respondNack cfg f e).faults = t.faults := rfl
@[simp] theorem Inst.respondNack_clearReqs (cfg : Config) (f e : Byte) (t : Inst) : (t.respondNack cfg f e).clearReqs = t.clearReqs := rfl
@[simp] theorem Inst.respondNack_held (cfg : Config) (f e : Byte) (t : Inst) : (t.respondNack cfg f e).held = t.held := rfl
@[simp] theorem Inst.respondNack_asciiMode (cfg : Config) (f e : Byte) (t : Inst) : (t.respondNack cfg f e).asciiMode = t.asciiMode := rfl
@[simp] theorem Inst.respondNack_sessionPerm (cfg : Config) (f e : Byte) (t : Inst) : (t.respondNack cfg f e).sessionPerm = t.sessionPerm := rfl
@[simp] theorem Inst.respondNack_tx (cfg : Config) (f e : Byte) (t : Inst) : (t.respondNack cfg f e).tx = t.tx := rfl
@[simp] theorem Inst.respondNack_live (cfg : Config) (f e : Byte) (t : Inst) : (t.respondNack cfg f e).live = t.live := rfl
@[simp] theorem Inst.respondNack_handlerReqs (cfg : Config) (f e : Byte) (t : Inst) : (t.respondNack cfg f e).handlerReqs = t.handlerReqs := rfl
@[simp] theorem Inst.respondNack_asciiReqs (cfg : Config) (f e : Byte) (t : Inst) : (t.respondNack cfg f e).asciiReqs = t.asciiReqs := rfl

/-! ### Inst.callHandler -/

@[simp] theorem Inst.callHandler_rxq (i : Nat) (r : List Byte) (t : Inst) : (t.callHandler i r).rxq = t.rxq := rfl
@[simp] theorem Inst.callHandler_buf (i : Nat) (r : List Byte) (t : Inst) : (t.callHandler i r).buf = [] := rfl
@[simp] theorem Inst.callHandler_curAddr (i : Nat) (r : List Byte) (t : Inst) : (t.callHandler i r).curAddr = t.curAddr := rfl
@[simp] theorem Inst.callHandler_started (i : Nat) (r : List Byte) (t : Inst) : (t.callHandler i r).started = t.started := rfl
@[simp] theorem Inst.callHandler_phase (i : Nat) (r : List Byte) (t : Inst) : (t.callHandler i r).phase = .waitHandler := rfl
@[simp] theorem Inst.callHandler_rsp (i : Nat) (r : List Byte) (t : Inst) : (t.callHandler i r).rsp = t.rsp := rfl
@[simp] theorem Inst.callHandler_rspPos (i : Nat) (r : List Byte) (t : Inst) : (t.callHandler i r).rspPos = t.rspPos := rfl
@[simp] theorem Inst.callHandler_crcCheckEn (i : Nat) (r : List Byte) (t : Inst) : (t.callHandler i r).crcCheckEn = t.crcCheckEn := rfl
@[simp] theorem Inst.callHandler_frameState (i : Nat) (r : List Byte) (t : Inst) : (t.callHandler i r).frameState = t.frameState := rfl
@[simp] theorem Inst.callHandler_dispOutcome (i : Nat) (r : List Byte) (t : Inst) : (t.callHandler i r).dispOutcome = .none := rfl
@[simp] theorem Inst.callHandler_faults (i : Nat) (r : List Byte) (t : Inst) : (t.callHandler i r).faults = t.faults := rfl
@[simp] theorem Inst.callHandler_clearReqs (i : Nat) (r : List Byte) (t : Inst) : (t.callHandler i r).clearReqs = t.clearReqs := rfl
@[simp] theorem Inst.callHandler_held (i : Nat) (r : List Byte) (t : Inst) : (t.callHandler i r).held = t.held := rfl
@[simp] theorem Inst.callHandler_asciiMode (i : Nat) (r : List Byte) (t : Inst) : (t.callHandler i r).asciiMode = t.asciiMode := rfl
@[simp] theorem Inst.callHandler_sessionPerm (i : Nat) (r : List Byte) (t : Inst) : (t.callHandler i r).sessionPerm = t.sessionPerm := rfl
@[simp] theorem Inst.callHandler_tx (i : Nat) (r : List Byte) (t : Inst) : (t.callHandler i r).tx = t.tx := rfl
@[simp] theorem Inst.callHandler_live (i : Nat) (r : List Byte) (t : Inst) : (t.callHandler i r).live = t.live := rfl
@[simp] theorem Inst.callHandler_handlerReqs (i : Nat) (r : List Byte) (t : Inst) : (t.callHandler i r).handlerReqs = t.handlerReqs ++ [⟨i, r, t.curAddr⟩] := rfl
@[simp] theorem Inst.callHandler_asciiReqs (i : Nat) (r : List Byte) (t : Inst) : (t.callHandler i r).asciiReqs = t.asciiReqs := rfl

/-! ### Inst.callAscii -/

@[simp] theorem Inst.callAscii_rxq (t : Inst) : (t.callAscii).rxq = t.rxq := rfl
@[simp] theorem Inst.callAscii_buf (t : Inst) : (t.callAscii).buf = [] := rfl
@[simp] theorem Inst.callAscii_curAddr (t : Inst) : (t.callAscii).curAddr = t.curAddr := rfl
@[simp] theorem Inst.callAscii_started (t : Inst) : (t.callAscii).started = t.started := rfl
@[simp] theorem Inst.callAscii_phase (t : Inst) : (t.callAscii).phase = .waitAscii := rfl
@[simp] theorem Inst.callAscii_rsp (t : Inst) : (t.callAscii).rsp = t.rsp := rfl
@[simp] theorem Inst.callAscii_rspPos (t : Inst) : (t.callAscii).rspPos = t.rspPos := rfl
@[simp] theorem Inst.callAscii_crcCheckEn (t : Inst) : (t.callAscii).crcCheckEn = t.crcCheckEn := rfl
@[simp] theorem Inst.callAscii_frameState (t : Inst) : (t.callAscii).frameState = t.frameState := rfl
@[simp] theorem Inst.callAscii_dispOutcome (t : Inst) : (t.callAscii).dispOutcome = .doneAscii := rfl
@[simp] theorem Inst.callAscii_faults (t : Inst) : (t.callAscii).faults = t.faults := rfl
@[simp] theorem Inst.callAscii_clearReqs (t : Inst) : (t.callAscii).clearReqs = t.clearReqs := rfl
@[simp] theorem Inst.callAscii_held (t : Inst) : (t.callAscii).held = t.held := rfl
@[simp] theorem Inst.callAscii_asciiMode (t : Inst) : (t.callAscii).asciiMode = t.asciiMode := rfl
@[simp] theorem Inst.callAscii_sessionPerm (t : Inst) : (t.callAscii).sessionPerm = t.sessionPerm := rfl
@[simp] theorem Inst.callAscii_tx (t : Inst) : (t.callAscii).tx = t.tx := rfl
@[simp] theorem Inst.callAscii_live (t : Inst) : (t.callAscii).live = t.live := rfl
@[simp] theorem Inst.callAscii_handlerReqs (t : Inst) : (t.callAscii).handlerReqs = t.handlerReqs := rfl
@[simp] theorem Inst.callAscii_asciiReqs (t : Inst) : (t.callAscii).asciiReqs = t.asciiReqs ++ [t.buf] := rfl

/-! ### Inst.latch -/

@[simp] theorem Inst.latch_rxq (a : Byte) (t : Inst) : (t.latch a).rxq = t.rxq := rfl
@[simp] theorem Inst.latch_buf (a : Byte) (t : Inst) : (t.latch a).buf = t.buf := rfl
@[simp] theorem Inst.latch_curAddr (a : Byte) (t : Inst) : (t.latch a).curAddr = a := rfl
@[simp] theorem Inst.latch_started (a : Byte) (t : Inst) : (t.latch a).started = t.started := rfl
@[simp] theorem Inst.latch_phase (a : Byte) (t : Inst) : (t.latch a).phase = t.phase := rfl
@[simp] theorem Inst.latch_rsp (a : Byte) (t : Inst) : (t.latch a).rsp = t.rsp := rfl
@[simp] theorem Inst.latch_rspPos (a : Byte) (t : Inst) : (t.latch a).rspPos = t.rspPos := rfl
@[simp] theorem Inst.latch_crcCheckEn (a : Byte) (t : Inst) : (t.latch a).crcCheckEn = t.crcCheckEn := rfl
@[simp] theorem Inst.latch_frameState (a : Byte) (t : Inst) : (t.latch a).frameState = t.frameState := rfl
@[simp] theorem Inst.latch_dispOutcome (a : Byte) (t : Inst) : (t.latch a).dispOutcome = t.dispOutcome := rfl
@[simp] theorem Inst.latch_faults (a : Byte) (t : Inst) : (t.latch a).faults = t.faults := rfl
@[simp] theorem Inst.latch_clearReqs (a : Byte) (t : Inst) : (t.latch a).clearReqs = t.clearReqs := rfl
@[simp] theorem Inst.latch_held (a : Byte) (t : Inst) : (t.latch a).held = t.held := rfl
@[simp] theorem Inst.latch_asciiMode (a : Byte) (t : Inst) : (t.latch a).asciiMode = t.asciiMode := rfl
@[simp] theorem Inst.latch_sessionPerm (a : Byte) (t : Inst) : (t.latch a).sessionPerm = t.sessionPerm := rfl
@[simp] theorem Inst.latch_tx (a : Byte) (t : Inst) : (t.latch a).tx = t.tx := rfl
@[simp] theorem Inst.latch_live (a : Byte) (t : Inst) : (t.latch a).live = t.live := rfl
@[simp] theorem Inst.latch_handlerReqs (a : Byte) (t : Inst) : (t.latch a).handlerReqs = t.handlerReqs := rfl
@[simp] theorem Inst.latch_asciiReqs (a : Byte) (t : Inst) : (t.latch a).asciiReqs = t.asciiReqs := rfl

/-! ### Inst.clearRequest -/

@[simp] theorem Inst.clearRequest_rxq (t : Inst) : (t.clearRequest).rxq = t.rxq := rfl
@[simp] theorem Inst.clearRequest_buf (t : Inst) : (t.clearRequest).buf = t.buf := rfl
@[simp] theorem Inst.clearRequest_curAddr (t : Inst) : (t.clearRequest).curAddr = t.curAddr := rfl
@[simp] theorem Inst.clearRequest_started (t : Inst) : (t.clearRequest).started = t.started := rfl
@[simp] theorem Inst.clearRequest_phase (t : Inst) : (t.clearRequest).phase = t.phase := rfl
@[simp] theorem Inst.clearRequest_rsp (t : Inst) : (t.clearRequest).rsp = t.rsp := rfl
@[simp] theorem Inst.clearRequest_rspPos (t : Inst) : (t.clearRequest).rspPos = t.rspPos := rfl
@[simp] theorem Inst.clearRequest_crcCheckEn (t : Inst) : (t.clearRequest).crcCheckEn = t.crcCheckEn := rfl
@[simp] theorem Inst.clearRequest_frameState (t : Inst) : (t.clearRequest).frameState = t.frameState := rfl
@[simp] theorem Inst.clearRequest_dispOutcome (t : Inst) : (t.clearRequest).dispOutcome = t.dispOutcome := rfl
@[simp] theorem Inst.clearRequest_faults (t : Inst) : (t.clearRequest).faults = t.faults := rfl
@[simp] theorem Inst.clearRequest_clearReqs (t : Inst) : (t.clearRequest).clearReqs = t.clearReqs + 1 := rfl
@[simp] theorem Inst.clearRequest_held (t : Inst) : (t.clearRequest).held = t.held := rfl
@[simp] theorem Inst.clearRequest_asciiMode (t : Inst) : (t.clearRequest).asciiMode = t.asciiMode := rfl
@[simp] theorem Inst.clearRequest_sessionPerm (t : Inst) : (t.clearRequest).sessionPerm = t.sessionPerm := rfl
@[simp] theorem Inst.clearRequest_tx (t : Inst) : (t.clearRequest).tx = t.tx := rfl
@[simp] theorem Inst.clearRequest_live (t : Inst) : (t.clearRequest).live = t.live := rfl
@[simp] theorem Inst.clearRequest_handlerReqs (t : Inst) : (t.clearRequest).handlerReqs = t.handlerReqs := rfl
@[simp] theorem Inst.clearRequest_asciiReqs (t : Inst) : (t.clearRequest).asciiReqs = t.asciiReqs := rfl

/-! ### Inst.opTimeout -/

@[simp] theorem Inst.opTimeout_rxq (t : Inst) : (t.opTimeout).rxq = t.rxq := rfl
@[simp] theorem Inst.opTimeout_buf (t : Inst) : (t.opTimeout).buf = [] := rfl
@[simp] theorem Inst.opTimeout_curAddr (t : Inst) : (t.opTimeout).curAddr = t.curAddr := rfl
@[simp] theorem Inst.opTimeout_started (t : Inst) : (t.opTimeout).started = t.started := rfl
@[simp] theorem Inst.opTimeout_phase (t : Inst) : (t.opTimeout).phase = t.phase := rfl
@[simp] theorem Inst.opTimeout_rsp (t : Inst) : (t.opTimeout).rsp = t.rsp := rfl
@[simp] theorem Inst.opTimeout_rspPos (t : Inst) : (t.opTimeout).rspPos = t.rspPos := rfl
@[simp] theorem Inst.opTimeout_crcCheckEn (t : Inst) : (t.opTimeout).crcCheckEn = t.crcCheckEn := rfl
@[simp] theorem Inst.opTimeout_frameState (t : Inst) : (t.opTimeout).frameState = .processing := rfl
@[simp] theorem Inst.opTimeout_dispOutcome (t : Inst) : (t.opTimeout).dispOutcome = .none := rfl
@[simp] theorem Inst.opTimeout_faults (t : Inst) : (t.opTimeout).faults = t.faults := rfl
@[simp] theorem Inst.opTimeout_clearReqs (t : Inst) : (t.opTimeout).clearReqs = t.clearReqs := rfl
@[simp] theorem Inst.opTimeout_held (t : Inst) : (t.opTimeout).held = t.held := rfl
@[simp] theorem Inst.opTimeout_asciiMode (t : Inst) : (t.opTimeout).asciiMode = t.asciiMode := rfl
@[simp] theorem Inst.opTimeout_sessionPerm (t : Inst) : (t.opTimeout).sessionPerm = t.sessionPerm := rfl
@[simp] theorem Inst.opTimeout_tx (t : Inst) : (t.opTimeout).tx = t.tx := rfl
@[simp] theorem Inst.opTimeout_live (t : Inst) : (t.opTimeout).live = t.live ++ [.asleep] := rfl
@[simp] theorem Inst.opTimeout_handlerReqs (t : Inst) : (t.opTimeout).handlerReqs = t.handlerReqs := rfl
@[simp] theorem Inst.opTimeout_asciiReqs (t : Inst) : (t.opTimeout).asciiReqs = t.asciiReqs := rfl

/-! ### Inst.opClear -/

@[simp] theorem Inst.opClear_rxq (t : Inst) : (t.opClear).rxq = t.rxq := rfl
@[simp] theorem Inst.opClear_buf (t : Inst) : (t.opClear).buf = [] := rfl
@[simp] theorem Inst.opClear_curAddr (t : Inst) : (t.opClear).curAddr = t.curAddr := rfl
@[simp] theorem Inst.opClear_started (t : Inst) : (t.opClear).started = t.started := rfl
@[simp] theorem Inst.opClear_phase (t : Inst) : (t.opClear).phase = t.phase := rfl
@[simp] theorem Inst.opClear_rsp (t : Inst) : (t.opClear).rsp = t.rsp := rfl
@[simp] theorem Inst.opClear_rspPos (t : Inst) : (t.opClear).rspPos = t.rspPos := rfl
@[simp] theorem Inst.opClear_crcCheckEn (t : Inst) : (t.opClear).crcCheckEn = t.crcCheckEn := rfl
@[simp] theorem Inst.opClear_frameState (t : Inst) : (t.opClear).frameState = .error := rfl
@[simp] theorem Inst.opClear_dispOutcome (t : Inst) : (t.opClear).dispOutcome = .doneError := rfl
@[simp] theorem Inst.opClear_faults (t : Inst) : (t.opClear).faults = t.faults := rfl
@[simp] theorem Inst.opClear_clearReqs (t : Inst) : (t.opClear).clearReqs = t.clearReqs - 1 := rfl
@[simp] theorem Inst.opClear_held (t : Inst) : (t.opClear).held = t.held := rfl
@[simp] theorem Inst.opClear_asciiMode (t : Inst) : (t.opClear).asciiMode = t.asciiMode := rfl
@[simp] theorem Inst.opClear_sessionPerm (t : Inst) : (t.opClear).sessionPerm = t.sessionPerm := rfl
@[simp] theorem Inst.opClear_tx (t : Inst) : (t.opClear).tx = t.tx := rfl
@[simp] theorem Inst.opClear_live (t : Inst) : (t.opClear).live = t.live := rfl
@[simp] theorem Inst.opClear_handlerReqs (t : Inst) : (t.opClear).handlerReqs = t.handlerReqs := rfl
@[simp] theorem Inst.opClear_asciiReqs (t : Inst) : (t.opClear).asciiReqs = t.asciiReqs := rfl

/-! ### Inst.doReset -/

@[simp] theorem Inst.doReset_rxq (cfg : Config) (t : Inst) : (t.doReset cfg).rxq = [] := rfl
@[simp] theorem Inst.doReset_buf (cfg : Config) (t : Inst) : (t.doReset cfg).buf = [] := rfl
@[simp] theorem Inst.doReset_curAddr (cfg : Config) (t : Inst) : (t.doReset cfg).curAddr = cfg.addrPrimary := rfl
@[simp] theorem Inst.doReset_started (cfg : Config) (t : Inst) : (t.doReset cfg).started = false := rfl
@[simp] theorem Inst.doReset_phase (cfg : Config) (t : Inst) : (t.doReset cfg).phase = .recv := rfl
@[simp] theorem Inst.doReset_rsp (cfg : Config) (t : Inst) : (t.doReset cfg).rsp = [] := rfl
@[simp] theorem Inst.doReset_rspPos (cfg : Config) (t : Inst) : (t.doReset cfg).rspPos = 0 := rfl
@[simp] theorem Inst.doReset_crcCheckEn (cfg : Config) (t : Inst) : (t.doReset cfg).crcCheckEn = true := rfl
@[simp] theorem Inst.doReset_frameState (cfg : Config) (t : Inst) : (t.doReset cfg).frameState = .processing := rfl
@[simp] theorem Inst.doReset_dispOutcome (cfg : Config) (t : Inst) : (t.doReset cfg).dispOutcome = .none := rfl
@[simp] theorem Inst.doReset_faults (cfg : Config) (t : Inst) : (t.doReset cfg).faults = Faults.empty := rfl
@[simp] theorem Inst.doReset_clearReqs (cfg : Config) (t : Inst) : (t.doReset cfg).clearReqs = 0 := rfl
@[simp] theorem Inst.doReset_held (cfg : Config) (t : Inst) : (t.doReset cfg).held = [] := rfl
@[simp] theorem Inst.doReset_asciiMode (cfg : Config) (t : Inst) : (t.doReset cfg).asciiMode = t.asciiMode := rfl
@[simp] theorem Inst.doReset_sessionPerm (cfg : Config) (t : Inst) : (t.doReset cfg).sessionPerm = t.sessionPerm := rfl
@[simp] theorem Inst.doReset_tx (cfg : Config) (t : Inst) : (t.doReset cfg).tx = t.tx := rfl
@[simp] theorem Inst.doReset_live (cfg : Config) (t : Inst) : (t.doReset cfg).live = t.live := rfl
@[simp] theorem Inst.doReset_handlerReqs (cfg : Config) (t : Inst) : (t.doReset cfg).handlerReqs = t.handlerReqs := rfl
@[simp] theorem Inst.doReset_asciiReqs (cfg : Config) (t : Inst) : (t.doReset cfg).asciiReqs = t.asciiReqs := rfl

end Sys2Proof.Machine
end

