-- ==== Sys2Proof/Laws/Ops.lean ====
section
/-! SUPPORT. What each shared operation can do, said once. -/

namespace Sys2Proof.Machine

@[simp] theorem codecAscii_eq_complete (s : List Byte) :
    codecAscii s = .completeFrame ↔ ∃ c, s = lineBytes c := by
  unfold codecAscii
  constructor
  · intro h
    split at h
    · rename_i hs
      obtain ⟨c, hc⟩ := Option.isSome_iff_exists.mp hs
      exact ⟨c, parseLine_some hc⟩
    · cases h
  · rintro ⟨c, rfl⟩
    simp [parseLine_lineBytes]

/-! ### The table -/

/-- A hit is the first entry at or above the code, and has it (R168). -/
theorem lookupFrom_some {f : Byte} {t : List Entry} {i j : Nat} {p : Perm}
    (h : lookupFrom f i t = some (j, p)) :
    ∃ k e, j = i + k ∧ t[k]? = some e ∧ e.code = f ∧ e.perm = p ∧ f ≠ 0xFF ∧
      ∀ m e', m < k → t[m]? = some e' → e'.code < f := by
  induction t generalizing i with
  | nil => cases h
  | cons e rest ih =>
    simp only [lookupFrom] at h
    split at h
    · split at h
      · rename_i hc
        cases h
        exact ⟨0, e, rfl, rfl, hc.1, rfl, hc.1 ▸ hc.2, fun m e' hm _ => absurd hm (Nat.not_lt_zero m)⟩
      · cases h
    · rename_i hlt
      obtain ⟨k, e₁, rfl, hk, hc, hp, hf, hall⟩ := ih h
      refine ⟨k + 1, e₁, by omega, by simpa using hk, hc, hp, hf, ?_⟩
      intro m e' hm he
      cases m with
      | zero => simp only [List.getElem?_cons_zero, Option.some.injEq] at he; subst he; exact BitVec.not_le.mp hlt
      | succ m => exact hall m e' (by omega) (by simpa using he)

/-- Where every entry before entry `k` is below the code and entry `k` has it, the scan hits there. -/
theorem lookupFrom_hit {f : Byte} {t : List Entry} {k : Nat} {e : Entry} (i : Nat)
    (hk : t[k]? = some e) (hc : e.code = f) (hf : f ≠ 0xFF)
    (hall : ∀ m e', m < k → t[m]? = some e' → e'.code < f) :
    lookupFrom f i t = some (i + k, e.perm) := by
  induction t generalizing i k with
  | nil => simp at hk
  | cons e₀ rest ih =>
    cases k with
    | zero =>
      simp only [List.getElem?_cons_zero, Option.some.injEq] at hk
      subst hk
      have hf' : ¬ e₀.code = 0xFF := fun h => hf (hc ▸ h)
      simpa [lookupFrom, hc.symm] using hf'
    | succ k =>
      have h0 : ¬ f ≤ e₀.code := BitVec.not_le.mpr (hall 0 e₀ (by omega) rfl)
      have := ih (i + 1) (k := k) (by simpa using hk) fun m e' hm he => hall (m + 1) e' (by omega) (by simpa using he)
      simp only [lookupFrom, h0, if_false, this]
      congr 2
      omega

/-! ### The dispatch contract -/

/-- Step 7 and 8 (R171-R173). -/
theorem Inst.gate_cases (cfg : Config) (F : Frame) (i : Nat) (p : Perm) (t : Inst) :
    (t.sessionPerm = 3 ∧ t.gate cfg F i p = t.raise .badPerm) ∨
    (t.sessionPerm ≠ 3 ∧ t.sessionPerm < p.code ∧ t.gate cfg F i p = t.respondNack cfg F.func cfg.exc.noPerm) ∨
    (t.sessionPerm ≠ 3 ∧ ¬ t.sessionPerm < p.code ∧ t.gate cfg F i p = t.callHandler i F.bytes) := by
  unfold Inst.gate
  split
  · exact .inl ⟨‹_›, rfl⟩
  · split
    · exact .inr (.inl ⟨‹_›, ‹_›, rfl⟩)
    · exact .inr (.inr ⟨‹_›, ‹_›, rfl⟩)

/-- Steps 5a to 8: a NACK, F_BAD_PERM, or a handler call (R167, R168-R173). -/
theorem Inst.checkAndRun_cases (cfg : Config) (F : Frame) (t : Inst) :
    (t.crcCheckEn = true ∧ F.crcOk cfg.crc = false ∧
      t.checkAndRun cfg F = t.respondNack cfg F.func cfg.exc.crcError) ∨
    (¬ (t.crcCheckEn = true ∧ F.crcOk cfg.crc = false) ∧ lookup cfg.cmdTable F.func = none ∧
      t.checkAndRun cfg F = t.respondNack cfg F.func cfg.exc.unknownCmd) ∨
    (¬ (t.crcCheckEn = true ∧ F.crcOk cfg.crc = false) ∧
      ∃ i p, lookup cfg.cmdTable F.func = some (i, p) ∧ t.checkAndRun cfg F = t.gate cfg F i p) := by
  unfold Inst.checkAndRun
  split
  · rename_i h
    simp only [Bool.and_eq_true, Bool.not_eq_true'] at h
    exact .inl ⟨h.1, h.2, rfl⟩
  · rename_i h
    simp only [Bool.and_eq_true, Bool.not_eq_true'] at h
    split
    · exact .inr (.inl ⟨h, ‹_›, rfl⟩)
    · exact .inr (.inr ⟨h, _, _, ‹_›, rfl⟩)

/-- Steps 3 to 8 on a buffer that is not empty (R163, R164, R166). -/
theorem Inst.evaluateBinary_cases (cfg : Config) (t : Inst) {a : Byte} {rest : List Byte}
    (hb : t.buf = a :: rest) :
    (accepts cfg a = false ∧ t.evaluateBinary cfg = t.doneSilent) ∨
    (accepts cfg a = true ∧ codecBinary t.buf = .processing ∧ t.evaluateBinary cfg = t.processing) ∨
    (accepts cfg a = true ∧ ∃ F after, t.buf = F.bytes ++ after ∧ F.data.length ≤ 255 ∧ F.addr = a ∧
      t.evaluateBinary cfg = (t.latch F.addr).checkAndRun cfg F) := by
  unfold Inst.evaluateBinary
  rw [hb]
  simp only
  cases ha : accepts cfg a with
  | false => exact .inl ⟨rfl, by simp⟩
  | true =>
    simp only [Bool.not_true, Bool.false_eq_true, if_false]
    split
    · exact .inr (.inl ⟨trivial, (parseFrame_none_iff _).mp ‹_›, rfl⟩)
    · rename_i F after h
      obtain ⟨h1, h2⟩ := parseFrame_some h
      refine .inr (.inr ⟨trivial, F, after, h1, h2, ?_, rfl⟩)
      rw [Frame.bytes_eq] at h1
      exact (List.cons.inj h1).1.symm

/-- The dispatch contract (R160) by its first two steps. -/
theorem Inst.evaluate_cases (cfg : Config) (asleep : Bool) (t : Inst) :
    (asleep = true ∧ t.evaluate cfg asleep = t.doneSilent) ∨
    (asleep = false ∧ t.asciiMode = true ∧ (∃ c, t.buf = lineBytes c) ∧
      t.evaluate cfg asleep = t.callAscii) ∨
    (asleep = false ∧ t.asciiMode = true ∧ (¬ ∃ c, t.buf = lineBytes c) ∧
      t.evaluate cfg asleep = t.processing) ∨
    (asleep = false ∧ t.asciiMode = false ∧ t.evaluate cfg asleep = t.evaluateBinary cfg) := by
  unfold Inst.evaluate
  cases asleep with
  | true => exact .inl ⟨rfl, rfl⟩
  | false =>
    cases h : t.asciiMode with
    | false => exact .inr (.inr (.inr ⟨rfl, rfl, rfl⟩))
    | true =>
      by_cases hl : ∃ c, t.buf = lineBytes c
      · exact .inr (.inl ⟨rfl, rfl, hl, by simp [hl]⟩)
      · exact .inr (.inr (.inl ⟨rfl, rfl, hl, by simp only [codecAscii_eq_complete, hl]; simp⟩))

/-- OP_BYTE (R113, R115): the overflow, or an append and its evaluation. -/
theorem Inst.opByte_cases (cfg : Config) (asleep : Bool) (b : Byte) (t : Inst) :
    (t.buf.length = cfg.bufCap ∧ t.opByte cfg asleep b = (t.report .alive).doneError) ∨
    (t.buf.length ≠ cfg.bufCap ∧
      t.opByte cfg asleep b = ((t.report .alive).accumulate b).evaluate cfg asleep) := by
  unfold Inst.opByte
  by_cases h : t.buf.length = cfg.bufCap
  · exact .inl ⟨h, by simp [h]⟩
  · exact .inr ⟨h, by simp [h]⟩

/-! ### Returns and transmission -/

/-- `handler_rsp(r)` (R176). -/
theorem Inst.handlerReturn_cases (cfg : Config) (r : List Byte) (t : Inst) :
    (rspMax < r.length ∧ t.handlerReturn cfg r = t.raise .rspOversize) ∨
    (r = [] ∧ t.handlerReturn cfg r = { t with dispOutcome := .doneSilent, phase := .recv }) ∨
    (r ≠ [] ∧ r.length ≤ rspMax ∧
      t.handlerReturn cfg r = { t with rsp := appendCrc cfg.crc r, rspPos := 0, phase := .txDrain,
                                       dispOutcome := .doneResponse }) := by
  unfold Inst.handlerReturn
  split
  · exact .inl ⟨‹_›, rfl⟩
  · split
    · exact .inr (.inl ⟨‹_›, rfl⟩)
    · exact .inr (.inr ⟨‹_›, by omega, rfl⟩)

/-- `ascii_rsp(r)` (R127). -/
theorem Inst.asciiReturn_cases (r : List Byte) (t : Inst) :
    (rspMax < r.length ∧ t.asciiReturn r = t.raise .asciiOversize) ∨
    (r = [] ∧ t.asciiReturn r = { t with phase := .recv }) ∨
    (r ≠ [] ∧ r.length ≤ rspMax ∧ t.asciiReturn r = { t with rsp := r, rspPos := 0, phase := .txDrain }) := by
  unfold Inst.asciiReturn
  split
  · exact .inl ⟨‹_›, rfl⟩
  · split
    · exact .inr (.inl ⟨‹_›, rfl⟩)
    · exact .inr (.inr ⟨‹_›, by omega, rfl⟩)

/-- One byte at the TX port (R206). -/
theorem Inst.txByte_cases (t : Inst) :
    (t.rsp.length ≤ t.rspPos ∧ t.txByte = t) ∨
    (∃ b, t.rsp[t.rspPos]? = some b ∧ t.rspPos + 1 = t.rsp.length ∧
      t.txByte = { t with tx := t.tx ++ [b], rsp := [], rspPos := 0, phase := .recv }) ∨
    (∃ b, t.rsp[t.rspPos]? = some b ∧ t.rspPos + 1 < t.rsp.length ∧
      t.txByte = { t with tx := t.tx ++ [b], rspPos := t.rspPos + 1 }) := by
  unfold Inst.txByte
  split
  · exact .inl ⟨List.getElem?_eq_none_iff.mp ‹_›, rfl⟩
  · rename_i b h
    have := (List.getElem?_eq_some_iff.mp h).1
    split
    · exact .inr (.inl ⟨b, h, ‹_›, rfl⟩)
    · exact .inr (.inr ⟨b, h, by omega, rfl⟩)

/-- `rx_push(b)` (R110). -/
theorem Inst.rxPush_cases (cfg : Config) (b : Byte) (t : Inst) :
    (t.rxq.length < cfg.qDepth ∧ t.rxPush cfg b = { t with rxq := t.rxq ++ [b] }) ∨
    (cfg.rxqFull = .dropNew ∧ cfg.qDepth ≤ t.rxq.length ∧ t.rxPush cfg b = t) ∨
    (cfg.rxqFull = .blockProducer ∧ (cfg.qDepth ≤ t.rxq.length ∨ t.held ≠ []) ∧
      t.rxPush cfg b = { t with held := t.held ++ [b] }) := by
  unfold Inst.rxPush
  split
  · rename_i hp
    split
    · exact .inl ⟨‹_›, rfl⟩
    · exact .inr (.inl ⟨hp, by omega, rfl⟩)
  · rename_i hp
    split
    · exact .inl ⟨‹_ ∧ _›.1, rfl⟩
    · rename_i h
      refine .inr (.inr ⟨hp, ?_, rfl⟩)
      by_cases hq : t.rxq.length < cfg.qDepth
      · exact .inr fun hh => h ⟨hq, hh⟩
      · exact .inl (by omega)

/-- The completion of a blocked push (R110). -/
theorem Inst.rxResume_cases (cfg : Config) (t : Inst) :
    ((t.held = [] ∨ cfg.qDepth ≤ t.rxq.length) ∧ t.rxResume cfg = t) ∨
    (∃ b rest, t.held = b :: rest ∧ t.rxq.length < cfg.qDepth ∧
      t.rxResume cfg = { t with rxq := t.rxq ++ [b], held := rest }) := by
  unfold Inst.rxResume
  split
  · exact .inl ⟨.inl ‹_›, rfl⟩
  · rename_i b rest h
    split
    · exact .inr ⟨b, rest, h, ‹_›, rfl⟩
    · exact .inl ⟨.inr (by omega), rfl⟩

/-! ### Selecting an operation -/

theorem Inst.enabled_iff (t : Inst) :
    t.enabled = true ↔ t.started = true ∧ t.phase = .recv ∧ t.faults = Faults.empty := by
  simp [Inst.enabled, and_assoc]

/-- What the engine takes, and from where (R112). -/
theorem Inst.selectOp_cases {w w' : BitVec 10} {t u : Inst} (h : t.selectOp w = some (w', u)) :
    t.enabled = true ∧
    ((opKind w = 0 ∧ ∃ b, t.rxq = b :: u.rxq ∧ w' = opWord 0 b ∧ u = { t with rxq := u.rxq }) ∨
     (opKind w = 1 ∧ t.rxq = [] ∧ w' = w ∧ u = t) ∨
     (opKind w = 2 ∧ 0 < t.clearReqs ∧ w' = w ∧ u = t) ∨
     (opKind w = 3 ∧ w' = w ∧ u = t)) := by
  unfold Inst.selectOp at h
  split at h
  · cases h
  · rename_i he
    refine ⟨by simpa using he, ?_⟩
    split at h
    · rename_i hk
      split at h
      · cases h
      · rename_i b rest hr
        cases h
        exact .inl ⟨hk, b, hr, rfl, rfl⟩
    · split at h
      · rename_i hk
        split at h
        · cases h; exact .inr (.inl ⟨hk, ‹_›, rfl, rfl⟩)
        · cases h
      · split at h
        · rename_i hk
          split at h
          · cases h; exact .inr (.inr (.inl ⟨hk, ‹_›, rfl, rfl⟩))
          · cases h
        · cases h
          refine .inr (.inr (.inr ⟨?_, rfl, rfl⟩))
          rename_i h0 h1 h2
          have : ∀ k : BitVec 2, ¬ k = 0 → ¬ k = 1 → ¬ k = 2 → k = 3 := by decide
          exact this _ h0 h1 h2

end Sys2Proof.Machine
end

