-- ==== Sys2Proof/Laws/PerInstr.lean ====
section
/-! SUPPORT. Per-instruction lemmas: how many bytes an instruction has at its port (30 R80, R82, R84,
R86-R89), and that they are never none. -/

namespace Sys2Proof.Laws

/-- The length of an encoding (30 R80, R82, R86-R89). -/
def encodedLength : Instr → Nat
  | .opByte _ => 2
  | .opTimeout => 2
  | .opClear => 2
  | .opReserved => 2
  | .func10 _ data _ => 4 + data.length
  | .funcSentinel _ data _ => 4 + data.length
  | .funcTable _ _ data _ => 4 + data.length
  | .rspAck _ _ => 4
  | .rspNack _ _ _ => 5
  | .rspResp _ _ data => 3 + data.length
  | .asciiLine content => content.length + 2

/-- The encoding of an instruction has the length its layout gives, and is not empty. -/
def EncodedLength.Statement (i : Instr) : Prop :=
  (encode i).length = encodedLength i ∧ encode i ≠ []

/-- A frame has 4 bytes beside its data (30 R84). -/
theorem frame_bytes_length (F : Machine.Frame) : F.bytes.length = 4 + F.data.length := by
  simp [Machine.Frame.bytes, Machine.Frame.covered]
  omega

/-- The same of a request instruction's encoding. -/
theorem frame_bytes_ne_nil (F : Machine.Frame) : F.bytes ≠ [] := by
  simp [Machine.Frame.bytes]

theorem EncodedLength.opByte (b : Byte) : EncodedLength.Statement (.opByte b) := ⟨rfl, by simp [encode]⟩

theorem EncodedLength.opTimeout : EncodedLength.Statement .opTimeout := ⟨rfl, by simp [encode]⟩

theorem EncodedLength.opClear : EncodedLength.Statement .opClear := ⟨rfl, by simp [encode]⟩

theorem EncodedLength.opReserved : EncodedLength.Statement .opReserved := ⟨rfl, by simp [encode]⟩

theorem EncodedLength.func10 (addr : Byte) (data : List Byte) (crc : Byte) :
    EncodedLength.Statement (.func10 addr data crc) :=
  ⟨frame_bytes_length _, frame_bytes_ne_nil _⟩

theorem EncodedLength.funcSentinel (addr : Byte) (data : List Byte) (crc : Byte) :
    EncodedLength.Statement (.funcSentinel addr data crc) :=
  ⟨frame_bytes_length _, frame_bytes_ne_nil _⟩

theorem EncodedLength.funcTable (addr func : Byte) (data : List Byte) (crc : Byte) :
    EncodedLength.Statement (.funcTable addr func data crc) :=
  ⟨frame_bytes_length _, frame_bytes_ne_nil _⟩

theorem EncodedLength.rspAck (addr func : Byte) : EncodedLength.Statement (.rspAck addr func) :=
  ⟨rfl, by simp [encode, Machine.encodeAck]⟩

theorem EncodedLength.rspNack (addr func exc : Byte) : EncodedLength.Statement (.rspNack addr func exc) :=
  ⟨rfl, by simp [encode, Machine.encodeNack]⟩

theorem EncodedLength.rspResp (addr func : Byte) (data : List Byte) :
    EncodedLength.Statement (.rspResp addr func data) :=
  ⟨by simp [encode, encodedLength, Machine.encodeResp]; omega, by simp [encode, Machine.encodeResp]⟩

theorem EncodedLength.asciiLine (content : List Byte) : EncodedLength.Statement (.asciiLine content) :=
  ⟨by simp [encode, encodedLength, Machine.lineBytes], by simp [encode, Machine.lineBytes]⟩

end Sys2Proof.Laws
end

