-- ==== Sys2Proof/Laws/Step.lean ====
section
/-! SUPPORT. What the decoder of responses answers, and what exec, an event and a step can do. -/

namespace Sys2Proof

open Machine

/-- A decoded response is the bytes it was decoded from, with at most 255 data bytes (R86-R88). -/
theorem decodeResponse_some {r : List Byte} {i : Instr} (h : decodeResponse r = some i) :
    encode i = r ∧
    ((∃ a f, i = .rspAck a f) ∨ (∃ a f e, i = .rspNack a f e) ∨
      ∃ a f d, i = .rspResp a f d ∧ d.length ≤ 255 ∧ i.ackOrNackShaped = false) := by
  unfold decodeResponse at h
  split at h
  · rename_i a f m data
    split at h
    · cases h
    · rename_i hm
      have hm : m.toNat = data.length := not_not.mp hm
      have hlt := m.isLt
      have hl : lenByte data = m := by
        apply BitVec.eq_of_toNat_eq
        rw [lenByte_toNat (by omega), hm]
      split at h
      · rename_i z
        have h1 : m = 0x01 := by rw [← hl]; rfl
        split at h
        · rename_i hz
          cases h
          exact ⟨by rw [hz, h1]; rfl, .inl ⟨a, f, rfl⟩⟩
        · rename_i hz
          cases h
          refine ⟨by simp [encode, encodeResp, hl], .inr (.inr ⟨a, f, _, rfl, by omega, ?_⟩)⟩
          simpa [Instr.ackOrNackShaped] using hz
      · rename_i z e _
        have h2 : m = 0x02 := by rw [← hl]; rfl
        split at h
        · rename_i hz
          cases h
          exact ⟨by rw [hz, h2]; rfl, .inr (.inl ⟨a, f, e, rfl⟩)⟩
        · rename_i hz
          cases h
          refine ⟨by simp [encode, encodeResp, hl], .inr (.inr ⟨a, f, _, rfl, by omega, ?_⟩)⟩
          simpa [Instr.ackOrNackShaped] using hz
      · rename_i h1 h2
        cases h
        refine ⟨by simp [encode, encodeResp, hl], .inr (.inr ⟨a, f, _, rfl, by omega, ?_⟩)⟩
        unfold Instr.ackOrNackShaped
        split
        · rename_i heq; cases heq; exact absurd rfl (h1 _)
        · rename_i heq; cases heq; exact absurd rfl (h2 _ _)
        · rfl
  · cases h

/-- Running a decoded response is a handler's return of its bytes (R176). -/
theorem exec_of_decodeResponse {r : List Byte} {i : Instr} (h : decodeResponse r = some i) (s : State) :
    exec i s = .next (s.answer r) := by
  obtain ⟨rfl, ⟨a, f, rfl⟩ | ⟨a, f, e, rfl⟩ | ⟨a, f, d, rfl, hd, -⟩⟩ := decodeResponse_some h
  · rfl
  · rfl
  · simp [exec, execRspResp, hd, encode]

end Sys2Proof

namespace Sys2Proof.Machine

/-- A handler's return of any bytes goes the same way, whatever its shape (R176, decision D32). -/
theorem runHandlerRsp_eq (r : List Byte) (s : State) : runHandlerRsp r s = .next (s.answer r) := by
  unfold runHandlerRsp
  simp only [decode]
  cases h : decodeResponse r with
  | none => rfl
  | some i => exact exec_of_decodeResponse h s

/-- Presenting bytes to the dispatch contract runs it on them, or refuses bytes BUF cannot hold. -/
theorem State.present_cases (bytes : List Byte) (s : State) :
    (bytes.length ≤ s.cfg.bufCap ∧ s.present bytes =
      .next (s.setAct (Inst.evaluate s.cfg s.sysAsleep { s.act with buf := bytes }))) ∨
    (s.cfg.bufCap < bytes.length ∧ s.present bytes = .refused .notEncodable) := by
  unfold State.present
  split
  · exact .inl ⟨‹_›, rfl⟩
  · exact .inr ⟨by omega, rfl⟩

/-- Where an instruction answers a next state, only the active instance differs. -/
theorem exec_next {i : Instr} {s t : State} (h : exec i s = .next t) : ∃ u, t = s.setAct u := by
  have hp : ∀ bytes, s.present bytes = .next t → ∃ u, t = s.setAct u := by
    intro bytes hb
    rcases s.present_cases bytes with ⟨-, h1⟩ | ⟨-, h1⟩
    · rw [h1] at hb; cases hb; exact ⟨_, rfl⟩
    · rw [h1] at hb; cases hb
  have hf : ∀ F, s.presentFrame F = .next t → ∃ u, t = s.setAct u := by
    intro F hF
    unfold State.presentFrame at hF
    split at hF
    · exact hp _ hF
    · cases hF
  cases i with
  | opByte b => cases h; exact ⟨_, rfl⟩
  | opTimeout => cases h; exact ⟨_, rfl⟩
  | opClear => cases h; exact ⟨_, rfl⟩
  | opReserved => cases h; exact ⟨_, rfl⟩
  | func10 a d c => exact hf _ h
  | funcSentinel a d c => exact hf _ h
  | funcTable a f d c => exact hf _ h
  | rspAck a f => cases h; exact ⟨_, rfl⟩
  | rspNack a f e => cases h; exact ⟨_, rfl⟩
  | rspResp a f d =>
    simp only [exec, execRspResp] at h
    split at h
    · cases h; exact ⟨_, rfl⟩
    · cases h
  | asciiLine c => exact hp _ h

theorem opKind_opWord (k : BitVec 2) (b : Byte) : opKind (opWord k b) = k := by
  apply BitVec.eq_of_getElem_eq
  intro i hi
  simp only [opKind, opWord, BitVec.getElem_extractLsb', BitVec.getLsbD_append]
  have h1 : ¬ 8 + i < 8 := by omega
  have h2 : 8 + i - 8 = i := by omega
  simp only [h1, h2, if_false]
  exact BitVec.getLsbD_eq_getElem hi

theorem opData_opWord (k : BitVec 2) (b : Byte) : opData (opWord k b) = b := by
  apply BitVec.eq_of_getElem_eq
  intro i hi
  simp only [opData, opWord, BitVec.getElem_extractLsb', BitVec.getLsbD_append]
  simp [hi]

/-- A word of kind 00 is OP_BYTE of its data field (R80, R81). -/
theorem decodeOp_opWord (b : Byte) : decodeOp (opWord 0 b) = .opByte b := by
  unfold decodeOp
  rw [opKind_opWord, opData_opWord, if_pos rfl]

/-- What an `op` event does (R112): nothing where the operation is not enabled, else OP_BYTE of the byte
popped from RXQ, OP_TIMEOUT, OP_CLEAR or OP_RESERVED. -/
theorem runPort_op_cases (w : BitVec 10) (s : State) :
    (s.act.selectOp w = none ∧ runPort (.op w) s = .next s) ∨
    (s.act.enabled = true ∧
      ((∃ b rest, opKind w = 0 ∧ s.act.rxq = b :: rest ∧
          runPort (.op w) s =
            .next (s.setAct (Inst.opByte s.cfg s.sysAsleep b { s.act with rxq := rest }))) ∨
       (opKind w = 1 ∧ s.act.rxq = [] ∧ runPort (.op w) s = .next (s.setAct s.act.opTimeout)) ∨
       (opKind w = 2 ∧ 0 < s.act.clearReqs ∧ runPort (.op w) s = .next (s.setAct s.act.opClear)) ∨
       (opKind w = 3 ∧ runPort (.op w) s = .next (s.setAct (s.act.raise .illegalOp))))) := by
  cases hs : s.act.selectOp w with
  | none => exact .inl ⟨rfl, by simp [runPort, hs]⟩
  | some p =>
    obtain ⟨w', u⟩ := p
    have hrun : runPort (.op w) s = exec (decodeOp w') (s.setAct u) := by simp [runPort, hs]
    obtain ⟨he, ⟨hk, b, hr, rfl, hu⟩ | ⟨hk, hr, rfl, rfl⟩ | ⟨hk, hr, rfl, rfl⟩ | ⟨hk, rfl, rfl⟩⟩ :=
      Inst.selectOp_cases hs
    · refine .inr ⟨he, .inl ⟨b, u.rxq, hk, hr, ?_⟩⟩
      rw [hrun, decodeOp_opWord, ← hu]
      simp [exec, execOpByte]
    · refine .inr ⟨he, .inr (.inl ⟨hk, hr, ?_⟩)⟩
      rw [hrun]; simp [decodeOp, hk, exec, execOpTimeout]
    · refine .inr ⟨he, .inr (.inr (.inl ⟨hk, hr, ?_⟩))⟩
      rw [hrun]; simp [decodeOp, hk, exec, execOpClear]
    · refine .inr ⟨he, .inr (.inr (.inr ⟨hk, ?_⟩))⟩
      rw [hrun]; simp [decodeOp, hk, exec, execOpReserved]

/-- What an operation word does to the instance whose engine is offered it (R112-R121). -/
def Inst.takeOp (cfg : Config) (asleep : Bool) (w : BitVec 10) (t : Inst) : Inst :=
  match t.selectOp w with
  | none => t
  | some (w', u) =>
    match decodeOp w' with
    | .opByte b => u.opByte cfg asleep b
    | .opTimeout => u.opTimeout
    | .opClear => u.opClear
    | _ => u.raise .illegalOp

/-- What a port event does to its instance. -/
def Inst.react (cfg : Config) (asleep : Bool) (e : PortEvent) (t : Inst) : Inst :=
  match e with
  | .rxPush b => t.rxPush cfg b
  | .rxResume => t.rxResume cfg
  | .op w => t.takeOp cfg asleep w
  | .clear => t.clearRequest
  | .start => t.start
  | .cfgWrite v => t.cfgWrite v
  | .setAsciiMode v => { t with asciiMode := v }
  | .setSessionPerm v => { t with sessionPerm := v }
  | .handlerRsp call r => if t.awaitsHandler call then t.handlerReturn cfg r else t
  | .asciiRsp call r => if t.awaitsAscii call then t.asciiReturn r else t
  | .txAccept => if t.awaitsTx then t.txByte else t

/-- What an offered operation word can be, by its kind (R112). -/
theorem Inst.takeOp_cases (cfg : Config) (asleep : Bool) (w : BitVec 10) (t : Inst) :
    (t.selectOp w = none ∧ t.takeOp cfg asleep w = t) ∨
    (t.enabled = true ∧
      ((∃ b rest, opKind w = 0 ∧ t.rxq = b :: rest ∧
          t.takeOp cfg asleep w = Inst.opByte cfg asleep b { t with rxq := rest }) ∨
       (opKind w = 1 ∧ t.rxq = [] ∧ t.takeOp cfg asleep w = t.opTimeout) ∨
       (opKind w = 2 ∧ 0 < t.clearReqs ∧ t.takeOp cfg asleep w = t.opClear) ∨
       (opKind w = 3 ∧ t.takeOp cfg asleep w = t.raise .illegalOp))) := by
  unfold Inst.takeOp
  cases hs : t.selectOp w with
  | none => exact .inl ⟨rfl, rfl⟩
  | some p =>
    obtain ⟨w', u⟩ := p
    obtain ⟨he, ⟨hk, b, hr, rfl, hu⟩ | ⟨hk, hr, rfl, rfl⟩ | ⟨hk, hr, rfl, rfl⟩ | ⟨hk, rfl, rfl⟩⟩ :=
      Inst.selectOp_cases hs
    · refine .inr ⟨he, .inl ⟨b, u.rxq, hk, hr, ?_⟩⟩
      rw [← hu]
      simp only [decodeOp_opWord]
    · exact .inr ⟨he, .inr (.inl ⟨hk, hr, by simp [decodeOp, hk]⟩)⟩
    · exact .inr ⟨he, .inr (.inr (.inl ⟨hk, hr, by simp [decodeOp, hk]⟩))⟩
    · exact .inr ⟨he, .inr (.inr (.inr ⟨hk, by simp [decodeOp, hk]⟩))⟩

/-- Every event at a port answers a next state, and acts on its instance alone. -/
theorem runPort_eq (e : PortEvent) (s : State) :
    runPort e s = .next (s.setAct (s.act.react s.cfg s.sysAsleep e)) := by
  cases e with
  | op w =>
    rcases runPort_op_cases w s with ⟨hn, h⟩ | ⟨he, ⟨b, rest, hk, hr, h⟩ | ⟨hk, hr, h⟩ | ⟨hk, hr, h⟩ | ⟨hk, h⟩⟩ <;>
    rcases s.act.takeOp_cases s.cfg s.sysAsleep w with ⟨hn', h'⟩ | ⟨he', ⟨b', rest', hk', hr', h'⟩ | ⟨hk', hr', h'⟩ | ⟨hk', hr', h'⟩ | ⟨hk', h'⟩⟩ <;>
    simp_all [Inst.react, State.setAct_act, Inst.selectOp]
  | handlerRsp call r =>
    simp only [runPort, Inst.react]
    split
    · exact runHandlerRsp_eq r s
    · rw [State.setAct_act]
  | asciiRsp call r =>
    simp only [runPort, Inst.react]
    split
    · rfl
    · rw [State.setAct_act]
  | txAccept =>
    simp only [runPort, Inst.react]
    split
    · rfl
    · rw [State.setAct_act]
  | _ => rfl

/-- A step of a well-formed configuration is its next event. -/
theorem step_of_event {s : State} {e : Event} {rest : List Event} (h : s.NextEvent e rest) :
    step s = runEvent e { s with inputs := rest } := by
  simp [step, h.1, runNext, h.2]

@[simp] theorem State.during_cfg (s : State) (c : Chan) (rest : List Event) : (s.during c rest).cfg = s.cfg := rfl
@[simp] theorem State.during_sysAsleep (s : State) (c : Chan) (rest : List Event) :
    (s.during c rest).sysAsleep = s.sysAsleep := rfl
@[simp] theorem State.during_active (s : State) (c : Chan) (rest : List Event) : (s.during c rest).active = c := rfl
@[simp] theorem State.during_inputs (s : State) (c : Chan) (rest : List Event) : (s.during c rest).inputs = rest := rfl
@[simp] theorem State.during_inst (s : State) (c d : Chan) (rest : List Event) :
    (s.during c rest).inst d = s.inst d := by cases d <;> rfl
@[simp] theorem State.during_act (s : State) (c : Chan) (rest : List Event) :
    (s.during c rest).act = s.inst c := by cases c <;> rfl

/-- A step whose next event is at a port of instance `c`. -/
theorem step_port {s : State} {c : Chan} {e : PortEvent} {rest : List Event}
    (h : s.NextEvent (.port c e) rest) :
    step s = .next ((s.during c rest).setAct ((s.inst c).react s.cfg s.sysAsleep e)) := by
  rw [step_of_event h]
  have := runPort_eq e (s.during c rest)
  rwa [State.during_act] at this

/-- A step whose next event is the reset input. -/
theorem step_reset {s : State} {rest : List Event} (h : s.NextEvent .reset rest) :
    step s = .next (State.doReset { s with inputs := rest }) := by
  rw [step_of_event h]; rfl

/-- A step whose next event changes SYS_ASLEEP. -/
theorem step_setAsleep {s : State} {v : Bool} {rest : List Event} (h : s.NextEvent (.setAsleep v) rest) :
    step s = .next { s with sysAsleep := v, inputs := rest } := by
  rw [step_of_event h]; rfl

/-- A run whose first step answers a next state goes on from it. -/
theorem run_succ {k : Nat} {s t : State} (h : step s = .next t) : core.run (k + 1) s = core.run k t := by
  have h' : core.step s = .next t := h
  simp only [Host.Core.run, h']

@[simp] theorem run_zero (s : State) : core.run 0 s = .next s := rfl

/-- A step that answers a next state did nothing (no event was left) or ran its next event. -/
theorem step_next_cases {s t : State} (h : step s = .next t) :
    s.cfg.wf = true ∧ ((s.inputs = [] ∧ t = s) ∨
      ∃ e rest, s.NextEvent e rest ∧ runEvent e { s with inputs := rest } = .next t) := by
  unfold step at h
  split at h
  · rename_i hw
    refine ⟨hw, ?_⟩
    unfold runNext at h
    split at h
    · rename_i hi; cases h; exact .inl ⟨hi, rfl⟩
    · rename_i e rest hi; exact .inr ⟨e, rest, ⟨hw, hi⟩, h⟩
  · cases h

end Sys2Proof.Machine
end

