-- ==== Sys2Proof/Tests/Slice0.lean ====
section
/-! SUPPORT. Tests of the model, their expected values from spec/95_test_vectors.md (each named by its
vector) or from the rule cited, and for each obligation with hypotheses a state that meets them. -/

namespace Sys2Proof.Tests

set_option Elab.async false

open Machine

/-! ### Well-formedness: each check refuses a term -/

theorem test_wf_func10_long : (Instr.func10 1 (List.replicate 256 0) 0).wf = false := by decide +kernel
theorem test_wf_funcSentinel_long : (Instr.funcSentinel 1 (List.replicate 256 0) 0).wf = false := by decide +kernel
theorem test_wf_funcTable_long : (Instr.funcTable 1 0x20 (List.replicate 256 0) 0).wf = false := by decide +kernel
theorem test_wf_funcTable_is_func10 : (Instr.funcTable 1 0x10 [] 0).wf = false := by decide +kernel
theorem test_wf_funcTable_is_sentinel : (Instr.funcTable 1 0xFF [] 0).wf = false := by decide +kernel
theorem test_wf_rspResp_long : (Instr.rspResp 1 0x20 (List.replicate 256 0)).wf = false := by decide +kernel
theorem test_wf_longest : (Instr.funcTable 1 0xFE (List.replicate 255 0) 0).wf = true := by decide +kernel

/-! ### Decoding: words written out from 30 R80-R89 -/

theorem test_decode_opByte : decode .opWord [0x00, 0x41] = .instr (.opByte 0x41) := by decide +kernel
/-- V-OP-6. -/
theorem test_decode_opTimeout : decodeOp 0x1FF = .opTimeout := by decide +kernel
theorem test_decode_opClear : decodeOp 0x200 = .opClear := by decide +kernel
/-- V-OP-5. -/
theorem test_decode_opReserved : decodeOp 0x300 = .opReserved := by decide +kernel
theorem test_decode_opWord_wide : decode .opWord [0x04, 0x00] = .error .notAnOpWord := by decide +kernel
/-- L1-1. -/
theorem test_decode_func10 :
    decode .request [0x01, 0x10, 0x00, 0x3C] = .instr (.func10 0x01 [] 0x3C) := by decide +kernel
/-- V-DISP-7. -/
theorem test_decode_funcSentinel :
    decode .request [0x01, 0xFF, 0x00, 0xBC] = .instr (.funcSentinel 0x01 [] 0xBC) := by decide +kernel
/-- L1-3. -/
theorem test_decode_funcTable : decode .request [0x01, 0x20, 0x02, 0xAA, 0x55, 0x4C] =
    .instr (.funcTable 0x01 0x20 [0xAA, 0x55] 0x4C) := by decide +kernel
theorem test_decode_request_short :
    decode .request [0x01, 0x20, 0x02, 0xAA, 0x55] = .error .incompleteFrame := by decide +kernel
theorem test_decode_request_long :
    decode .request [0x01, 0x10, 0x00, 0x3C, 0x00] = .error .bytesAfterFrame := by decide +kernel
/-- V-ENC-1. -/
theorem test_decode_rspAck : decode .response [0x01, 0x10, 0x01, 0x00] = .instr (.rspAck 0x01 0x10) := by decide +kernel
/-- V-ENC-2. -/
theorem test_decode_rspNack :
    decode .response [0x01, 0x10, 0x02, 0x00, 0x05] = .instr (.rspNack 0x01 0x10 0x05) := by decide +kernel
/-- V-ENC-4. -/
theorem test_decode_rspResp : decode .response [0x01, 0x21, 0x03, 0x11, 0x22, 0x33] =
    .instr (.rspResp 0x01 0x21 [0x11, 0x22, 0x33]) := by decide +kernel
theorem test_decode_response_short : decode .response [0x01, 0x21, 0x03, 0x11] = .error .notAResponse := by decide +kernel
/-- V-ASC-5. -/
theorem test_decode_asciiLine :
    decode .line [0x4F, 0x4B, 0x0D, 0x0A] = .instr (.asciiLine [0x4F, 0x4B]) := by decide +kernel
/-- V-ASC-3. -/
theorem test_decode_lfcr : decode .line [0x0A, 0x0D] = .error .notALine := by decide +kernel

/-- The table's words: operation kinds, headers, response rows with their CRC byte, an empty line. -/
theorem test_table_words :
    decodeTableWord 16 0x041 = some (.opByte 0x41) ∧ decodeTableWord 16 0x100 = some .opTimeout ∧
    decodeTableWord 16 0x200 = some .opClear ∧ decodeTableWord 16 0x300 = some .opReserved ∧
    decodeTableWord 24 0x011000 = some (.func10 0x01 [] 0x00) ∧
    decodeTableWord 24 0x01FF00 = some (.funcSentinel 0x01 [] 0x00) ∧
    decodeTableWord 24 0x012001 = some (.funcTable 0x01 0x20 [0x00] 0x00) ∧
    decodeTableWord 40 0x01100100A1 = some (.rspAck 0x01 0x10) ∧
    decodeTableWord 48 0x0110020005C8 = some (.rspNack 0x01 0x10 0x05) ∧
    decodeTableWord 32 0x012000C5 = some (.rspResp 0x01 0x20 []) ∧
    decodeTableWord 16 0x0D0A = some (.asciiLine []) := by decide +kernel

/-! ### CRC-8 and codec (V-CRC, V-COD, V-ASC, V-DISP-8) -/

theorem test_crc_values :
    crc8 Config.vectorDefault.crc [] = 0x00 ∧ crc8 Config.vectorDefault.crc [0x01] = 0x07 ∧
    crc8 Config.vectorDefault.crc [0x80] = 0x89 ∧ crc8 Config.vectorDefault.crc [0xFF] = 0xF3 ∧
    crc8 Config.vectorDefault.crc [0x01, 0x10, 0x00, 0x3C] = 0x00 := by decide +kernel
/-- V-CRC-6. -/
theorem test_crc_check_value : crc8 Config.vectorDefault.crc
    [0x31, 0x32, 0x33, 0x34, 0x35, 0x36, 0x37, 0x38, 0x39] = 0xF4 := by decide +kernel
/-- V-CRC-11. -/
theorem test_crc_reflected : crc8 ⟨0x07, 0x00, true, true, 0x00⟩ [0x01, 0x10, 0x00] = 0xC5 := by decide +kernel
/-- V-CRC-12. -/
theorem test_crc_init : crc8 ⟨0x31, 0xFF, false, false, 0x00⟩ [0x01, 0x10, 0x00] = 0x63 := by decide +kernel
theorem test_reverse8 : reverse8 0x01 = 0x80 ∧ reverse8 0x12 = 0x48 ∧ reverse8 0xD0 = 0x0B := by decide +kernel
theorem test_codec :
    codecBinary [0x01, 0x10, 0x00] = .processing ∧ codecBinary [0x01, 0x10, 0x00, 0x00] = .completeFrame ∧
    codecBinary [0x01, 0x10, 0x03, 0x01, 0x02, 0x03] = .processing ∧
    codecAscii [0x0D] = .processing ∧ codecAscii [0x4F, 0x4B, 0x0A] = .processing ∧
    codecAscii [0x0D, 0x0A] = .completeFrame := by decide +kernel
theorem test_lookup : [0x00, 0x10, 0x11, 0x20, 0x2F, 0x30, 0x31, 0xFE, 0xFF].map
      (lookup Config.vectorDefault.cmdTable) =
    [none, some (0, .all), none, some (1, .admin), none, some (2, .super), none, none, none] := by decide +kernel
theorem test_badTables : [[], [0x10], [0xFF, 0xFF], [0x20, 0x10, 0xFF], [0x10, 0x10, 0xFF]].map codesWf =
    [false, false, false, false, false] := by decide +kernel
theorem test_badConfigs :
    ({ Config.vectorDefault with bufCap := 258 } : Config).wf = false ∧
    ({ Config.vectorDefault with qDepth := 0 } : Config).wf = false ∧
    ({ Config.vectorDefault with
        exc := { Config.vectorDefault.exc with genError := 0x01 } } : Config).wf = false ∧
    Config.vectorDefault.wf = true := by decide +kernel

/-! ### One step each -/

/-- The configuration of the vectors. -/
abbrev cfg0 : Config := Config.vectorDefault

/-- The instance of the vectors: after reset with start asserted. -/
def t0 : Inst := { Inst.initial cfg0 with started := true }

/-- A machine whose USB instance is `t`, these events to come. -/
def st (t : Inst) (evs : List Event := []) : State := { State.reset with usb := t, inputs := evs }

/-- A view of the USB instance of a next state. -/
def view {α : Type} (o : Host.Outcome State Fault Refusal) (f : Inst → α) : Option α :=
  match o with
  | .next s => some (f s.usb)
  | .fault _ => none
  | .refused _ => none

/-- V-OP-1. -/
theorem test_opByte : view (exec (.opByte 0x01) (st t0)) (fun t => (t.buf, t.dispOutcome, t.live)) =
    some ([0x01], .processing, [.alive]) := by decide +kernel
/-- L1-4. -/
theorem test_opByte_foreign : view (exec (.opByte 0x09) (st t0)) (fun t => (t.buf, t.dispOutcome, t.tx)) =
    some ([], .doneSilent, []) := by decide +kernel
/-- V-OP-2. -/
theorem test_opTimeout : view (exec .opTimeout (st { t0 with buf := [0x01, 0x10] }))
    (fun t => (t.buf, t.frameState, t.dispOutcome, t.live)) =
    some ([], .processing, .none, [.asleep]) := by decide +kernel
/-- V-OP-4. -/
theorem test_opClear : view (exec .opClear (st { t0 with buf := [0x01, 0x10, 0x00], clearReqs := 1 }))
    (fun t => (t.buf, t.frameState, t.dispOutcome, t.live, t.clearReqs)) =
    some ([], .error, .doneError, [], 0) := by decide +kernel
/-- V-OP-5. -/
theorem test_opReserved : view (exec .opReserved (st t0)) (fun t => t.faults) =
    some ⟨true, false, false, false⟩ := by decide +kernel
/-- V-DISP-12: the request reaches the handler of entry 0 with its CRC byte and the secondary address. -/
theorem test_func10 : view (exec (.func10 0x02 [] 0x81) (st t0))
    (fun t => (t.handlerReqs, t.curAddr, t.phase)) =
    some ([⟨0, [0x02, 0x10, 0x00, 0x81], 0x02⟩], 0x02, .waitHandler) := by decide +kernel
/-- V-DISP-4. -/
theorem test_func10_badCrc : view (exec (.func10 0x01 [] 0x00) (st t0)) (fun t => t.rsp) =
    some [0x01, 0x10, 0x02, 0x00, 0x07, 0xC6] := by decide +kernel
/-- V-DISP-7. -/
theorem test_funcSentinel : view (exec (.funcSentinel 0x01 [] 0xBC) (st t0)) (fun t => (t.rsp, t.phase)) =
    some ([0x01, 0xFF, 0x02, 0x00, 0x06, 0x77], .txDrain) := by decide +kernel
/-- V-DISP-10: ADMIN session, SUPER entry. -/
theorem test_funcTable_noPerm : view (exec (.funcTable 0x01 0x30 [] 0x92) (st { t0 with sessionPerm := 1 }))
    (fun t => (t.rsp, t.handlerReqs)) = some ([0x01, 0x30, 0x02, 0x00, 0x05, 0x06], []) := by decide +kernel
/-- L1-5. -/
theorem test_funcTable_unknown : view (exec (.funcTable 0x01 0x42 [] 0x1A) (st { t0 with sessionPerm := 3 }))
    (fun t => (t.rsp, t.faults)) = some ([0x01, 0x42, 0x02, 0x00, 0x06, 0x11], Faults.empty) := by decide +kernel
/-- V-ENC-1. -/
theorem test_rspAck : view (exec (.rspAck 0x01 0x10) (st t0)) (fun t => (t.rsp, t.phase)) =
    some ([0x01, 0x10, 0x01, 0x00, 0xA1], .txDrain) := by decide +kernel
/-- V-ENC-2. -/
theorem test_rspNack : view (exec (.rspNack 0x01 0x10 0x05) (st t0)) (fun t => t.rsp) =
    some [0x01, 0x10, 0x02, 0x00, 0x05, 0xC8] := by decide +kernel
/-- V-ENC-4. -/
theorem test_rspResp : view (exec (.rspResp 0x01 0x21 [0x11, 0x22, 0x33]) (st t0)) (fun t => t.rsp) =
    some [0x01, 0x21, 0x03, 0x11, 0x22, 0x33, 0xC1] := by decide +kernel
/-- P4, its first line. -/
theorem test_asciiLine : view (exec (.asciiLine [0x4F, 0x4B]) (st { t0 with asciiMode := true }))
    (fun t => (t.asciiReqs, t.phase, t.dispOutcome)) =
    some ([[0x4F, 0x4B, 0x0D, 0x0A]], .waitAscii, .doneAscii) := by decide +kernel

/-! ### Steps -/

/-- V-OP-9: before start no engine step is enabled. -/
theorem test_step_notStarted : view (step (st { t0 with started := false, rxq := [0x01] } [.port .usb (.op 0)]))
    (fun t => t.rxq) = some [0x01] := by decide +kernel
/-- V-OP-9, L1-1: the last byte of the frame is popped and calls the handler. -/
theorem test_step_lastByte :
    view (step (st { t0 with buf := [0x01, 0x10, 0x00], rxq := [0x3C] } [.port .usb (.op 0)]))
    (fun t => (t.rxq, t.phase)) = some ([], .waitHandler) := by decide +kernel
/-- V-OP-8 under DROP_NEW and BLOCK_PRODUCER. -/
theorem test_push_full :
    ({ t0 with rxq := [0x01, 0x10] } : Inst).rxPush { cfg0 with qDepth := 2 } 0x00 =
      { t0 with rxq := [0x01, 0x10] } ∧
    ({ t0 with rxq := [0x01, 0x10] } : Inst).rxPush { cfg0 with qDepth := 2, rxqFull := .blockProducer } 0x00 =
      { t0 with rxq := [0x01, 0x10], held := [0x00] } := by decide +kernel
/-- V-DISP-14. -/
theorem test_handler_silent : view (step (st { t0 with phase := .waitHandler } [.port .usb (.handlerRsp 0 [])]))
    (fun t => (t.dispOutcome, t.phase)) = some (.doneSilent, .recv) := by decide +kernel
/-- V-DISP-15. -/
theorem test_handler_oversize :
    view (step (st { t0 with phase := .waitHandler } [.port .usb (.handlerRsp 0 (List.replicate 259 0))]))
    (fun t => t.faults) = some ⟨false, false, true, false⟩ := by decide +kernel
/-- V-TX-1, its last step. -/
theorem test_tx_last :
    view (step (st { t0 with phase := .txDrain, rsp := [0xA1], rspPos := 0 } [.port .usb .txAccept]))
    (fun t => (t.tx, t.rsp, t.phase)) = some ([0xA1], [], .recv) := by decide +kernel
/-- withFetchWord: the step after it runs the word's instruction. -/
theorem test_withFetchWord :
    view (step (State.reset.withFetchWord 16 0x300)) (fun t => t.faults.illegalOp) = some true ∧
    view (step (State.reset.withFetchWord 24 0x001000)) (fun t => t.dispOutcome) = some .doneSilent ∧
    view (step (State.reset.withFetchWord 40 0x01100100A1)) (fun t => t.rsp) =
      some [0x01, 0x10, 0x01, 0x00, 0xA1] ∧
    view (step (State.reset.withFetchWord 16 0x0D0A)) (fun t => t.asciiReqs) = some [[0x0D, 0x0A]] := by decide +kernel

/-! ### Witnesses: states and operands that meet the hypotheses of an obligation, at boundary values -/

/-- `Ready` on a concrete state. -/
theorem ready_of {s : State} {F : Frame}
    (h : s.cfg.wf = true ∧ s.sysAsleep = false ∧ s.act.asciiMode = false ∧ accepts s.cfg F.addr = true ∧
      F.data.length ≤ 255 ∧ (s.act.crcCheckEn = true → F.crc = crc8 s.cfg.crc F.covered)) : s.Ready F :=
  ⟨h.1, h.2.1, h.2.2.1, h.2.2.2.1, h.2.2.2.2.1, h.2.2.2.2.2⟩

/-- The next event of a state built by `st`. -/
theorem next_st (t : Inst) (e : Event) (rest : List Event) : (st t (e :: rest)).NextEvent e rest :=
  ⟨(by decide +kernel : cfg0.wf = true), rfl⟩

theorem witness_OperationKindSelectsOperation :
    (0x0FF#10).extractLsb' 8 2 = 0 ∧ (0x100#10).extractLsb' 8 2 = 1 ∧ (0x200#10).extractLsb' 8 2 = 2 ∧
    (0x3FF#10).extractLsb' 8 2 = 3 := by decide +kernel

theorem witness_DecodeEncodeRoundTrip :
    (Instr.rspResp 0x01 0x21 (List.replicate 255 0x00)).wf = true ∧
    (Instr.rspResp 0x01 0x21 (List.replicate 255 0x00)).ackOrNackShaped = false := by decide +kernel

theorem witness_DecodedBytesAreTheEncoding :
    Port.request ≠ .opWord ∧ decode .request [0x01, 0x10, 0x00, 0x3C] = .instr (.func10 0x01 [] 0x3C) := by
  decide +kernel

theorem witness_CrcOfEmptyAndZeroResidue :
    cfg0.crc.refIn = false ∧ cfg0.crc.refOut = false ∧ cfg0.crc.xorOut = 0x00 := by decide +kernel

theorem witness_CrcIsLinear : ([0x01, 0x10] : List Byte).length = ([0xFF, 0x00] : List Byte).length := rfl

theorem witness_CrcDependsOnEveryByte : cfg0.crc.poly.getLsbD 0 = true ∧ (0x00 : Byte) ≠ 0x01 := by
  decide +kernel

/-- Each clause, at the lengths where they meet. -/
theorem witness_BinaryCodecState :
    ([0x01, 0x10] : List Byte).length < 3 ∧
    (([0x01, 0x10, 0x00] : List Byte)[2]? = some 0x00 ∧
      ([0x01, 0x10, 0x00] : List Byte).length < 4 + (0x00 : Byte).toNat) ∧
    (([0x01, 0x10, 0x00, 0x3C] : List Byte)[2]? = some 0x00 ∧
      4 + (0x00 : Byte).toNat ≤ ([0x01, 0x10, 0x00, 0x3C] : List Byte).length) := by decide +kernel

theorem witness_FrameCompletesAtItsLastByte :
    let F : Frame := ⟨0x01, 0x10, List.replicate 255 0x00, 0x63⟩
    F.data.length ≤ 255 ∧ 0 < F.bytes.length ∧ 258 < F.bytes.length := by decide +kernel

theorem witness_AsciiCodecState :
    (∃ content, ([0x0D, 0x0A] : List Byte) = content ++ [0x0D, 0x0A]) ∧
    ¬ ∃ content, ([0x0D] : List Byte) = content ++ [0x0D, 0x0A] :=
  ⟨⟨[], rfl⟩, fun ⟨content, h⟩ => by
    have h := congrArg List.length h
    simp at h⟩

theorem witness_RespRoundTrip : (List.replicate 255 (0x00 : Byte)).length ≤ 255 := by decide +kernel

theorem witness_ByteIntoFullBufOverflows :
    (st { t0 with asciiMode := true, buf := List.replicate 259 0x41 }).act.buf.length = cfg0.bufCap := by
  decide +kernel

theorem witness_ByteWhileAsleepIsDiscarded :
    (st t0).act.buf.length ≠ cfg0.bufCap ∧ ({ st t0 with sysAsleep := true } : State).sysAsleep = true := by
  decide +kernel

/-- The foreign clause and the accepted one. -/
theorem witness_ByteOfUnfinishedFrame :
    (st t0).act.buf.length ≠ cfg0.bufCap ∧ (st t0).sysAsleep = false ∧ (st t0).act.asciiMode = false ∧
    (st t0).act.buf ++ [0x09] = [0x09] ∧
    ¬ ((0x09 : Byte) = cfg0.addrPrimary ∨ (0x09 : Byte) = cfg0.addrSecondary ∨ (0x09 : Byte) = cfg0.addrAscii) ∧
    (st { t0 with buf := [0x03, 0x10] }).act.buf ++ [0x00] = [0x03, 0x10, 0x00] ∧
    (0x03 : Byte) = cfg0.addrAscii ∧ codecBinary [0x03, 0x10, 0x00] = .processing := by decide +kernel

theorem witness_ByteCompletingFrameRunsItsFunction :
    (st { t0 with buf := [0x01, 0x10, 0x00] }).act.buf.length < cfg0.bufCap ∧
    (st t0).act.asciiMode = false ∧
    decode .request ((st { t0 with buf := [0x01, 0x10, 0x00] }).act.buf ++ [0x3C]) =
      .instr (.func10 0x01 [] 0x3C) := by decide +kernel

theorem witness_ByteInAsciiMode :
    (st { t0 with asciiMode := true, buf := [0x0D] }).act.buf.length < cfg0.bufCap ∧
    (st t0).sysAsleep = false ∧
    (st { t0 with asciiMode := true, buf := [0x0D] }).act.asciiMode = true ∧
    (st { t0 with asciiMode := true, buf := [0x0D] }).act.buf ++ [0x0A] = [] ++ [0x0D, 0x0A] ∧
    ¬ ∃ content, (st { t0 with asciiMode := true }).act.buf ++ [0x0D] = content ++ [0x0D, 0x0A] :=
  ⟨by decide +kernel, rfl, rfl, rfl, fun ⟨content, h⟩ => by
    have h := congrArg List.length h
    simp [st, t0, State.act, State.inst, State.reset, State.initial, Inst.initial] at h⟩

theorem witness_FrameWithBadCrcIsNacked :
    (Instr.func10 0x01 [] 0x00).frame? = some ⟨0x01, 0x10, [], 0x00⟩ ∧
    (st t0).cfg.wf = true ∧ (st t0).sysAsleep = false ∧ (st t0).act.asciiMode = false ∧
    accepts cfg0 0x01 = true ∧ (st t0).act.crcCheckEn = true ∧
    (0x00 : Byte) ≠ crc8 cfg0.crc [0x01, 0x10, 0x00] := by decide +kernel

theorem witness_UnknownFunctionIsNacked :
    (Instr.funcTable 0x01 0x42 [] 0x1A).frame? = some ⟨0x01, 0x42, [], 0x1A⟩ ∧
    (st t0).Ready ⟨0x01, 0x42, [], 0x1A⟩ ∧ ∀ e ∈ cfg0.cmdTable, e.code ≠ 0x42 :=
  ⟨rfl, ready_of (by decide +kernel), by decide +kernel⟩

theorem witness_SentinelCodeIsUnknown : (st t0).Ready ⟨0x01, 0xFF, [], 0xBC⟩ := ready_of (by decide +kernel)

/-- Both clauses, at the lowest level that suffices. -/
theorem witness_PermittedFunctionCallsItsHandler :
    (cfg0.cmdTable[0]? = some ⟨0x10, .all⟩ ∧ Perm.all.code ≤ (st t0).act.sessionPerm ∧
      (st t0).act.sessionPerm ≠ 3 ∧ (st t0).Ready ⟨0x01, 0x10, [], 0x3C⟩) ∧
    (cfg0.cmdTable[2]? = some ⟨0x30, .super⟩ ∧
      Perm.super.code ≤ (st { t0 with sessionPerm := 2 }).act.sessionPerm ∧
      (st { t0 with sessionPerm := 2 }).act.sessionPerm ≠ 3 ∧ (0x30 : Byte) ≠ 0xFF ∧
      (st { t0 with sessionPerm := 2 }).Ready ⟨0x01, 0x30, [], 0x92⟩) :=
  ⟨⟨rfl, by decide +kernel, by decide +kernel, ready_of (by decide +kernel)⟩,
    rfl, by decide +kernel, by decide +kernel, by decide +kernel, ready_of (by decide +kernel)⟩

/-- The highest level that does not suffice. -/
theorem witness_ForbiddenFunctionIsNacked :
    (Instr.funcTable 0x01 0x30 [] 0x92).frame? = some ⟨0x01, 0x30, [], 0x92⟩ ∧
    (st { t0 with sessionPerm := 1 }).Ready ⟨0x01, 0x30, [], 0x92⟩ ∧
    (⟨0x30, .super⟩ : Entry) ∈ cfg0.cmdTable ∧ (st { t0 with sessionPerm := 1 }).act.sessionPerm ≠ 3 ∧
    (st { t0 with sessionPerm := 1 }).act.sessionPerm < Perm.super.code :=
  ⟨rfl, ready_of (by decide +kernel), by decide +kernel, by decide +kernel, by decide +kernel⟩

theorem witness_ReservedSessionLevelFaults :
    (Instr.func10 0x01 [] 0x3C).frame? = some ⟨0x01, 0x10, [], 0x3C⟩ ∧
    (st { t0 with sessionPerm := 3 }).Ready ⟨0x01, 0x10, [], 0x3C⟩ ∧
    (⟨0x10, .all⟩ : Entry) ∈ cfg0.cmdTable ∧ (st { t0 with sessionPerm := 3 }).act.sessionPerm = 3 :=
  ⟨rfl, ready_of (by decide +kernel), by decide +kernel, rfl⟩

/-- Asleep, and awake at a foreign address. -/
theorem witness_SleepingOrForeignFrameIsDropped :
    (Instr.func10 0x09 [] 0x00).frame? = some ⟨0x09, 0x10, [], 0x00⟩ ∧ cfg0.wf = true ∧
    ({ st t0 with sysAsleep := true } : State).sysAsleep = true ∧ (st t0).act.asciiMode = false ∧
    (0x09 : Byte) ≠ cfg0.addrPrimary ∧ (0x09 : Byte) ≠ cfg0.addrSecondary ∧ (0x09 : Byte) ≠ cfg0.addrAscii := by
  decide +kernel

/-- The longest line BUF holds. -/
theorem witness_LineGoesToTheAdapter :
    (st { t0 with asciiMode := true }).sysAsleep = false ∧ (st { t0 with asciiMode := true }).act.asciiMode = true ∧
    (List.replicate 257 (0x41 : Byte)).length + 2 ≤ cfg0.bufCap := by decide +kernel

theorem witness_LookupStopsAtFirstCodeAtLeast : lookup cfg0.cmdTable 0x30 = some (2, .super) := by
  decide +kernel

theorem witness_ResponsesAreFramedAndSent :
    (List.replicate 255 (0x00 : Byte)).length ≤ 255 ∧ 255 < (List.replicate 256 (0x00 : Byte)).length := by
  decide +kernel

/-- A waiting instance, and the three lengths of a return. -/
theorem witness_HandlerReturnStep :
    let t : Inst := { t0 with phase := .waitHandler }
    (∀ r, (st t [.port .usb (.handlerRsp 0 r)]).NextEvent (.port .usb (.handlerRsp 0 r)) []) ∧
    t.phase = .waitHandler ∧ t.faults = Faults.empty ∧ 0 = t.handlerReqs.length ∧
    258 < (List.replicate 259 (0x00 : Byte)).length ∧
    List.replicate 258 (0x00 : Byte) ≠ [] ∧ (List.replicate 258 (0x00 : Byte)).length ≤ 258 ∧
    t0.phase ≠ .waitHandler :=
  ⟨fun _ => next_st _ _ _, by decide +kernel⟩

theorem witness_AdapterReturnStep :
    let t : Inst := { t0 with phase := .waitAscii }
    (∀ r, (st t [.port .usb (.asciiRsp 0 r)]).NextEvent (.port .usb (.asciiRsp 0 r)) []) ∧
    t.phase = .waitAscii ∧ t.faults = Faults.empty ∧ 0 = t.asciiReqs.length ∧
    258 < (List.replicate 259 (0x00 : Byte)).length ∧
    List.replicate 258 (0x00 : Byte) ≠ [] ∧ (List.replicate 258 (0x00 : Byte)).length ≤ 258 ∧
    t0.phase ≠ .waitAscii :=
  ⟨fun _ => next_st _ _ _, by decide +kernel⟩

/-- An instance that transmits two bytes. -/
def tTx : Inst := { t0 with phase := .txDrain, rsp := [0x0D, 0x0A], dispOutcome := .doneAscii }

/-- The first byte, the last one, and no transmission. -/
theorem witness_TransmitStep :
    (st tTx [.port .usb .txAccept]).NextEvent (.port .usb .txAccept) [] ∧
    tTx.phase = .txDrain ∧ tTx.faults = Faults.empty ∧ tTx.rsp[tTx.rspPos]? = some 0x0D ∧
    tTx.rspPos + 1 ≠ tTx.rsp.length ∧
    ({ tTx with rspPos := 1 } : Inst).rsp[1]? = some 0x0A ∧ 1 + 1 = tTx.rsp.length ∧ t0.phase ≠ .txDrain :=
  ⟨next_st _ _ _, by decide +kernel⟩

theorem witness_WholeResponseIsTransmitted :
    (st tTx).cfg.wf = true ∧ tTx.phase = .txDrain ∧ tTx.faults = Faults.empty ∧ tTx.rspPos < tTx.rsp.length ∧
    (st tTx [.port .usb .txAccept, .port .usb .txAccept]).inputs =
      List.replicate (tTx.rsp.length - tTx.rspPos) (.port .usb .txAccept) ++ [] := by decide +kernel

theorem witness_QueuedFrameIsReassembledAndRun :
    let F : Frame := ⟨0x01, 0x10, [], 0x3C⟩
    let s := st { t0 with rxq := F.bytes ++ [0x01] } (List.replicate 4 (.port .usb (.op 0x000)))
    s.cfg.wf = true ∧ s.sysAsleep = false ∧ (s.inst .usb).enabled = true ∧ (s.inst .usb).asciiMode = false ∧
    (s.inst .usb).buf = [] ∧ (s.inst .usb).rxq = F.bytes ++ [0x01] ∧ F.data.length ≤ 255 ∧
    accepts s.cfg F.addr = true ∧ decode .request F.bytes = .instr (.func10 0x01 [] 0x3C) ∧
    s.inputs = List.replicate F.bytes.length (.port .usb (.op 0x000)) ++ [] := by decide +kernel

theorem witness_StepRunsTheDecodedOperation :
    (st { t0 with rxq := [0x41] } [.port .usb (.op 0x000)]).NextEvent (.port .usb (.op 0x000)) [] ∧
    ({ t0 with rxq := [0x41] } : Inst).selectOp 0x000 = some (0x041, t0) :=
  ⟨next_st _ _ _, by decide +kernel⟩

theorem witness_StepRunsTheDecodedResponse :
    let t : Inst := { t0 with phase := .waitHandler }
    (st t [.port .usb (.handlerRsp 0 [0x01, 0x10, 0x01, 0x00])]).NextEvent
      (.port .usb (.handlerRsp 0 [0x01, 0x10, 0x01, 0x00])) [] ∧
    t.awaitsHandler 0 = true ∧ decode .response [0x01, 0x10, 0x01, 0x00] = .instr (.rspAck 0x01 0x10) :=
  ⟨next_st _ _ _, by decide +kernel⟩

/-- The gate closed and open; RXQ empty and not; a clear request pending and none. -/
theorem witness_OperationsEnabledExactly :
    ¬ ((Inst.initial cfg0).started = true ∧ (Inst.initial cfg0).phase = .recv ∧
      (Inst.initial cfg0).faults = Faults.empty) ∧
    t0.started = true ∧ t0.phase = .recv ∧ t0.faults = Faults.empty ∧ t0.rxq = [] ∧ t0.clearReqs = 0 ∧
    ({ t0 with rxq := [0x01] } : Inst).rxq = 0x01 :: [] ∧ 0 < ({ t0 with clearReqs := 1 } : Inst).clearReqs := by
  decide +kernel

theorem witness_DisabledEngineConsumesNothing :
    (st { t0 with started := false } [.port .usb (.op 0x100)]).NextEvent (.port .usb (.op 0x100)) [] ∧
    ({ t0 with started := false } : Inst).started = false ∧ ({ t0 with phase := .waitAscii } : Inst).phase ≠ .recv ∧
    ({ t0 with faults := ⟨true, false, false, false⟩ } : Inst).faults ≠ Faults.empty :=
  ⟨next_st _ _ _, by decide +kernel⟩

theorem witness_EveryStepOfWellFormedConfigurationCompletes : (st t0).cfg.wf = true := by decide +kernel

/-- Room for one byte more, no room, a waiting byte. -/
theorem witness_PushJoinsTheQueue :
    let full : Inst := { t0 with rxq := List.replicate 512 0x00 }
    (st t0 [.port .usb (.rxPush 0x01)]).NextEvent (.port .usb (.rxPush 0x01)) [] ∧
    (st t0 [.port .usb .rxResume]).NextEvent (.port .usb .rxResume) [] ∧
    t0.held = [] ∧ (List.replicate 511 (0x00 : Byte)).length < cfg0.qDepth ∧ cfg0.qDepth ≤ full.rxq.length ∧
    full.held = [] ∧ cfg0.rxqFull = .dropNew ∧
    ({ cfg0 with rxqFull := .blockProducer } : Config).rxqFull = .blockProducer ∧
    ({ cfg0 with rxqFull := .blockProducer } : Config).wf = true ∧
    ({ full with held := [0x01] } : Inst).held = 0x01 :: [] :=
  ⟨next_st _ _ _, next_st _ _ _, by decide +kernel⟩

theorem witness_ControlInputsChangeOnlyTheirOwn :
    t0.faults = Faults.empty ∧ (∀ e, (st t0 [.port .usb e]).NextEvent (.port .usb e) []) ∧
    (st t0 [.setAsleep true]).NextEvent (.setAsleep true) [] :=
  ⟨rfl, fun _ => next_st _ _ _, next_st _ _ _⟩

/-- The machine while `tTx` transmits. -/
def sTx : State := st tTx [.port .usb .txAccept]

/-- The machine after the first acceptance. -/
def sTxNext : State := st { tTx with tx := [0x0D], rspPos := 1 }

/-- The step between them: it writes the wire and answers a next state. -/
theorem step_sTx : step sTx = .next sTxNext := by
  rw [step, if_pos (by decide +kernel)]
  rfl

theorem next_sTx : sTx.NextEvent (.port .usb .txAccept) [] := next_st _ _ _

theorem witness_OnlyTransmitStepsWriteTheWire :
    sTx.NextEvent (.port .usb .txAccept) [] ∧ step sTx = .next sTxNext ∧ sTxNext.usb.tx ≠ sTx.usb.tx :=
  ⟨next_sTx, step_sTx, by decide +kernel⟩

/-- The invariant of an instance, from its decidable clauses. -/
theorem inv_of {t : Inst}
    (h : t.rxq.length ≤ cfg0.qDepth ∧ t.buf.length ≤ cfg0.bufCap ∧ t.rsp.length ≤ rspMax + 1 ∧
      (t.phase = .txDrain → t.rspPos < t.rsp.length) ∧ (t.phase ≠ .txDrain → t.rsp = [] ∧ t.rspPos = 0) ∧
      (t.phase ≠ .recv → t.buf = []) ∧
      (t.started = false → t.phase = .recv ∧ t.buf = [] ∧ t.faults = Faults.empty) ∧ t.held = [] ∧
      t.faults = Faults.empty ∧ (t.phase = .waitHandler → t.dispOutcome = .none ∧ t.handlerReqs ≠ []) ∧
      (t.phase = .waitAscii → t.dispOutcome = .doneAscii ∧ t.asciiReqs ≠ []) ∧
      (t.phase = .txDrain → t.dispOutcome = .doneResponse ∨ t.dispOutcome = .doneAscii)) : t.Inv cfg0 := by
  obtain ⟨h1, h2, h3, h4, h5, h6, h7, h8, h9, h10, h11, h12⟩ := h
  exact ⟨h1, h2, h3, h4, h5, h6, h7, fun h => absurd h8 h, .inl h9, by simp [h9, Faults.empty],
    by simp [h9, Faults.empty], by simp [h9, Faults.empty], h10, h11, h12⟩

theorem witness_EveryStepKeepsTheInvariant : sTx.Inv ∧ step sTx = .next sTxNext :=
  ⟨fun c => by cases c <;> exact inv_of (by decide +kernel), step_sTx⟩

/-- A frame in progress, one byte of it to come, and the step that appends it. -/
def sFrame : State := st { t0 with buf := [0x01, 0x10], rxq := [0x00] } [.port .usb (.op 0x000)]

def sFrameNext : State := st { t0 with
  buf := [0x01, 0x10, 0x00], dispOutcome := .processing, live := [.alive] }

theorem step_sFrame : step sFrame = .next sFrameNext := by
  rw [step, if_pos (by decide +kernel)]
  rfl

theorem next_sFrame : sFrame.NextEvent (.port .usb (.op 0x000)) [] := next_st _ _ _

theorem witness_BinaryBufNeverHoldsACompleteFrame :
    sFrame.BinaryBuf ∧ (∀ c v rest, sFrame.inputs ≠ .port c (.setAsciiMode v) :: rest) ∧
    step sFrame = .next sFrameNext :=
  ⟨fun c _ _ => by
      cases c
      · exact .inr ⟨⟨0x01, [0x10], rfl, by decide +kernel⟩, by decide +kernel⟩
      · exact .inl rfl,
    (fun c v rest h => by cases h), step_sFrame⟩

theorem witness_FrameIsProcessedAtExactlyItsLength :
    codecBinary [0x01, 0x10, 0x00] = .processing ∧
    codecBinary ([0x01, 0x10, 0x00] ++ [0x3C]) = .completeFrame := by decide +kernel

theorem witness_ConfigurationNeverChanges : step sFrame = .next sFrameNext := step_sFrame

theorem witness_OtherInstanceIsUntouched :
    sFrame.NextEvent (.port .usb (.op 0x000)) [] ∧ step sFrame = .next sFrameNext ∧ Chan.mod ≠ .usb :=
  ⟨next_sFrame, step_sFrame, by decide⟩

/-- Two machines that differ in the other instance. -/
theorem witness_InstanceDoesNotDependOnTheOther :
    let s' : State := { sFrame with mod := tTx }
    sFrame.NextEvent (.port .usb (.op 0x000)) [] ∧ s'.NextEvent (.port .usb (.op 0x000)) [] ∧
    sFrame.cfg = s'.cfg ∧ sFrame.sysAsleep = s'.sysAsleep ∧ sFrame.inst .usb = s'.inst .usb ∧
    step sFrame = .next sFrameNext ∧ step s' = .next { sFrameNext with mod := tTx } ∧ sFrame.mod ≠ s'.mod :=
  ⟨next_sFrame, next_sFrame, rfl, rfl, rfl, step_sFrame, by
    rw [step, if_pos (by decide +kernel)]
    rfl, by decide +kernel⟩

theorem witness_ResetSetsEveryElement : (st tTx [.reset]).NextEvent .reset [] := next_st _ _ _

/-- Each of the four writes. -/
theorem witness_GateAndCrcEnableWritesAreTheNamedOnes :
    (∀ e, (st t0 [e]).NextEvent e []) ∧
    view (step (st { t0 with started := false } [.port .usb .start])) Inst.started = some true ∧
    view (step (st t0 [.reset])) Inst.started = some false ∧
    view (step (st t0 [.port .usb (.cfgWrite false)])) Inst.crcCheckEn = some false ∧
    view (step (st { t0 with crcCheckEn := false } [.reset])) Inst.crcCheckEn = some true :=
  ⟨fun _ => next_st _ _ _, by decide +kernel⟩

theorem witness_FaultedInstanceTakesNoStep :
    (st { t0 with faults := ⟨true, false, false, false⟩ } [.port .usb (.rxPush 0x05)]).NextEvent
      (.port .usb (.rxPush 0x05)) [] ∧
    Event.port .usb (.rxPush 0x05) ≠ .reset ∧ (⟨true, false, false, false⟩ : Faults) ≠ Faults.empty ∧
    view (step (st { t0 with faults := ⟨true, false, false, false⟩ } [.port .usb (.rxPush 0x05)])) Inst.rxq =
      some [0x05] :=
  ⟨next_st _ _ _, by decide +kernel⟩

/-- An OP_BYTE, an OP_TIMEOUT, and an acceptance, which reports nothing. -/
theorem witness_LivenessReportsAreExact :
    sFrame.NextEvent (.port .usb (.op 0x000)) [] ∧ step sFrame = .next sFrameNext ∧
    sFrame.usb.selectOp 0x000 = some (0x000, { t0 with buf := [0x01, 0x10] }) ∧ opKind 0x000 = 0 ∧
    (st t0 [.port .usb (.op 0x100)]).NextEvent (.port .usb (.op 0x100)) [] ∧
    t0.selectOp 0x100 = some (0x100, t0) ∧ opKind 0x100 = 1 ∧
    view (step (st t0 [.port .usb (.op 0x100)])) Inst.live = some [.asleep] ∧
    sTx.NextEvent (.port .usb .txAccept) [] ∧ step sTx = .next sTxNext :=
  ⟨next_sFrame, step_sFrame, by decide +kernel, by decide +kernel, next_st _ _ _, by decide +kernel,
    by decide +kernel, by decide +kernel, next_sTx, step_sTx⟩

theorem witness_ReceiveQueueIsFifo :
    sFrame.NextEvent (.port .usb (.op 0x000)) [] ∧ step sFrame = .next sFrameNext ∧
    Event.port .usb (.op 0x000) ≠ .reset :=
  ⟨next_sFrame, step_sFrame, by decide +kernel⟩

/-- The last byte of a frame at ADDR_SECONDARY. -/
theorem witness_CurrentAddressIsAnAcceptedOne :
    (st { t0 with buf := [0x02, 0x10, 0x00], rxq := [0x81] } [.port .usb (.op 0x000)]).NextEvent
      (.port .usb (.op 0x000)) [] ∧
    view (step (st { t0 with buf := [0x02, 0x10, 0x00], rxq := [0x81] } [.port .usb (.op 0x000)])) Inst.curAddr =
      some 0x02 ∧ t0.curAddr ≠ 0x02 :=
  ⟨next_st _ _ _, by decide +kernel⟩

end Sys2Proof.Tests
end

section
/-! SUPPORT. The scope statements: which configurations a step refuses (00_scope R8, 10_state R31), and
that no step of the others stops (R11). -/

namespace Sys2Proof

/-- R31 (a)-(d) on the codes of a table, as the recursion of `codesWf` checks them. -/
theorem codesWf_iff (l : List Byte) :
    codesWf l = true ↔ l ≠ [] ∧ (∀ c, l.getLast? = some c → c = 0xFF) ∧
      (∀ c ∈ l.dropLast, c ≠ 0xFF) ∧ l.IsChain (· < ·) := by
  induction l with
  | nil => simp [codesWf]
  | cons c tail ih =>
    cases tail with
    | nil => simp [codesWf]
    | cons d rest =>
      rw [codesWf, Bool.and_eq_true, Bool.and_eq_true, ih, bne_iff_ne, decide_eq_true_iff,
        List.getLast?_cons_cons, List.dropLast_cons_cons, List.forall_mem_cons, List.isChain_cons_cons]
      simp only [ne_eq, reduceCtorEq, not_false_eq_true, true_and]
      constructor
      · rintro ⟨⟨hc, hlt⟩, hlast, hinit, hchain⟩
        exact ⟨hlast, ⟨hc, hinit⟩, hlt, hchain⟩
      · rintro ⟨hlast, ⟨hc, hinit⟩, hlt, hchain⟩
        exact ⟨⟨hc, hlt⟩, hlast, hinit, hchain⟩

/-- Neighbours in a list are related exactly where every two entries at `i` and `i + 1` are. -/
theorem isChain_iff_getElem?_succ {α : Type} {R : α → α → Prop} (l : List α) :
    l.IsChain R ↔ ∀ i a b, l[i]? = some a → l[i + 1]? = some b → R a b := by
  rw [List.isChain_iff_getElem]
  constructor
  · intro h i a b ha hb
    obtain ⟨_, rfl⟩ := List.getElem?_eq_some_iff.mp ha
    obtain ⟨hi, rfl⟩ := List.getElem?_eq_some_iff.mp hb
    exact h i hi
  · intro h i hi
    exact h i _ _ (List.getElem?_eq_getElem _) (List.getElem?_eq_getElem _)

/-- R31 on the entries of a command table. -/
theorem tableWf_iff (t : List Entry) :
    tableWf t = true ↔ t ≠ [] ∧ (∀ e, t.getLast? = some e → e.code = 0xFF) ∧
      (∀ e ∈ t.dropLast, e.code ≠ 0xFF) ∧
      ∀ i e e', t[i]? = some e → t[i + 1]? = some e' → e.code < e'.code := by
  have hlast : (∀ c, (t.map Entry.code).getLast? = some c → c = 0xFF) ↔
      ∀ e, t.getLast? = some e → e.code = 0xFF := by
    simp [List.getLast?_map]
  rw [tableWf, codesWf_iff, hlast, ← List.map_dropLast, List.forall_mem_map, List.isChain_map,
    isChain_iff_getElem?_succ, ne_eq, List.map_eq_nil_iff]

/-- R8: the check of the parameters is the conjunction of its constraints. -/
theorem Config.wf_iff (c : Config) :
    c.wf = true ↔ c.exc.values.Nodup ∧ tableWf c.cmdTable = true ∧ 259 ≤ c.bufCap ∧ 1 ≤ c.qDepth := by
  simp [Config.wf, and_assoc]

end Sys2Proof

namespace Sys2Proof.Machine

/-- A step of a configuration that breaks a constraint is refused (R8). -/
theorem step_of_not_wf {s : State} (h : s.cfg.wf = false) : step s = .refused .badConfig := by
  simp [step, h]

/-- A step of a well-formed configuration with no event left does nothing (60 R234). -/
theorem step_of_inputs_nil {s : State} (hw : s.cfg.wf = true) (hi : s.inputs = []) : step s = .next s := by
  simp [step, hw, runNext, hi]

/-- No step of a well-formed configuration stops. -/
theorem step_next_of_wf {s : State} (hw : s.cfg.wf = true) : ∃ t, step s = .next t := by
  cases hi : s.inputs with
  | nil => exact ⟨s, step_of_inputs_nil hw hi⟩
  | cons e rest =>
    cases e with
    | reset => exact ⟨_, step_reset ⟨hw, hi⟩⟩
    | setAsleep v => exact ⟨_, step_setAsleep ⟨hw, hi⟩⟩
    | port c e => exact ⟨_, step_port ⟨hw, hi⟩⟩

/-- A step is refused for its configuration exactly where the check of R8 fails. -/
theorem step_refused_badConfig_iff (s : State) : step s = .refused .badConfig ↔ ¬ s.cfg.wf = true := by
  constructor
  · intro hr hw
    obtain ⟨t, ht⟩ := step_next_of_wf hw
    rw [ht] at hr
    cases hr
  · intro hw
    exact step_of_not_wf (Bool.eq_false_iff.mpr hw)

/-- Settles O42, by the kind of the next event. -/
theorem everyStepOfWellFormedConfigurationCompletes :
    Obligations.EveryStepOfWellFormedConfigurationCompletes :=
  fun _ => step_next_of_wf

/-- Settles O41: the check fails exactly where one of the constraints of R8 and R31 does. -/
theorem refusedExactlyWhenConfigurationBreaksAConstraint :
    Obligations.RefusedExactlyWhenConfigurationBreaksAConstraint := by
  intro s
  rw [step_refused_badConfig_iff, Config.wf_iff, tableWf_iff, List.Nodup]
  refine not_congr ⟨?_, ?_⟩
  · rintro ⟨hexc, ⟨hne, hlast, hinit, hasc⟩, hbuf, hq⟩
    exact ⟨hexc, hbuf, hq, hne, hlast, hinit, hasc⟩
  · rintro ⟨hexc, hbuf, hq, hne, hlast, hinit, hasc⟩
    exact ⟨hexc, ⟨hne, hlast, hinit, hasc⟩, hbuf, hq⟩

end Sys2Proof.Machine
end

section
/-! SUPPORT. What one step can do to one of the two channels, said once: the reset, a port event of that
channel, or nothing; what an evaluation can answer; and which elements each port event leaves alone. -/

namespace Sys2Proof.Machine

/-! ### One step, seen from one channel -/

/-- No event writes a static parameter (R32, R37). -/
theorem runEvent_cfg {e : Event} {s t : State} (h : runEvent e s = .next t) : t.cfg = s.cfg := by
  cases e with
  | reset => cases h; rfl
  | setAsleep v => cases h; rfl
  | port c e =>
    rw [runEvent, runPort_eq] at h
    cases h
    exact State.setAct_cfg _ _

/-- No step writes a static parameter (R32, R37). -/
theorem step_cfg {s t : State} (h : step s = .next t) : t.cfg = s.cfg := by
  obtain ⟨-, ⟨-, rfl⟩ | ⟨e, rest, -, hrun⟩⟩ := step_next_cases h
  · rfl
  · exact runEvent_cfg (s := { s with inputs := rest }) hrun

/-- What a step does to the channel `c`: the reset, an event at its own ports, or nothing. -/
theorem step_inst_cases {s t : State} {e : Event} {rest : List Event} (hn : s.NextEvent e rest)
    (hs : step s = .next t) (c : Chan) :
    (e = .reset ∧ t.inst c = (s.inst c).doReset s.cfg) ∨
    (∃ p, e = .port c p ∧ t.inst c = (s.inst c).react s.cfg s.sysAsleep p) ∨
    t.inst c = s.inst c := by
  cases e with
  | reset =>
    rw [step_reset hn] at hs
    cases hs
    exact .inl ⟨rfl, by simp⟩
  | setAsleep v =>
    rw [step_setAsleep hn] at hs
    cases hs
    exact .inr (.inr (by cases c <;> rfl))
  | port d p =>
    rw [step_port hn] at hs
    cases hs
    by_cases hcd : c = d
    · subst hcd
      exact .inr (.inl ⟨p, rfl, State.inst_setAct_active _ _⟩)
    · exact .inr (.inr (by rw [State.inst_setAct_ne _ _ hcd, State.during_inst]))

/-! ### What an evaluation answers -/

/-- The six answers of the dispatch contract (R160-R173): the frame of the last three is at an accepted
address, which is latched. -/
inductive Inst.Evaluated (cfg : Config) (t : Inst) : Inst → Prop where
  | silent : Evaluated cfg t t.doneSilent
  | more : Evaluated cfg t t.processing
  | line : Evaluated cfg t t.callAscii
  | badPerm {F : Frame} (mine : accepts cfg F.addr = true) :
      Evaluated cfg t ((t.latch F.addr).raise .badPerm)
  | nack {F : Frame} (exc : Byte) (mine : accepts cfg F.addr = true) :
      Evaluated cfg t ((t.latch F.addr).respondNack cfg F.func exc)
  | call {F : Frame} (i : Nat) (mine : accepts cfg F.addr = true) :
      Evaluated cfg t ((t.latch F.addr).callHandler i F.bytes)

/-- Steps 5 to 8 give one of the last three answers. -/
theorem Inst.checkAndRun_evaluated {cfg : Config} {F : Frame} (mine : accepts cfg F.addr = true) (t : Inst) :
    t.Evaluated cfg ((t.latch F.addr).checkAndRun cfg F) := by
  rcases (t.latch F.addr).checkAndRun_cases cfg F with ⟨-, -, h⟩ | ⟨-, -, h⟩ | ⟨-, i, p, -, h⟩
  · exact h ▸ .nack _ mine
  · exact h ▸ .nack _ mine
  · rcases (t.latch F.addr).gate_cases cfg F i p with ⟨-, hg⟩ | ⟨-, -, hg⟩ | ⟨-, -, hg⟩
    · exact (h.trans hg) ▸ .badPerm mine
    · exact (h.trans hg) ▸ .nack _ mine
    · exact (h.trans hg) ▸ .call i mine

/-- Steps 3 to 8. -/
theorem Inst.evaluateBinary_evaluated (cfg : Config) (t : Inst) :
    t.Evaluated cfg (t.evaluateBinary cfg) := by
  cases hb : t.buf with
  | nil =>
    have h : t.evaluateBinary cfg = t.processing := by simp only [Inst.evaluateBinary, hb]
    exact h ▸ .more
  | cons a rest =>
    rcases t.evaluateBinary_cases cfg hb with ⟨-, h⟩ | ⟨-, -, h⟩ | ⟨ha, F, -, -, -, rfl, h⟩
    · exact h ▸ .silent
    · exact h ▸ .more
    · exact h ▸ t.checkAndRun_evaluated ha

/-- The whole dispatch contract (R160). -/
theorem Inst.evaluate_evaluated (cfg : Config) (asleep : Bool) (t : Inst) :
    t.Evaluated cfg (t.evaluate cfg asleep) := by
  rcases t.evaluate_cases cfg asleep with ⟨-, h⟩ | ⟨-, -, -, h⟩ | ⟨-, -, -, h⟩ | ⟨-, -, h⟩
  · exact h ▸ .silent
  · exact h ▸ .line
  · exact h ▸ .more
  · exact h ▸ t.evaluateBinary_evaluated cfg

namespace Inst.Evaluated

variable {cfg : Config} {t u : Inst}

theorem gate (h : t.Evaluated cfg u) : u.started = t.started ∧ u.crcCheckEn = t.crcCheckEn := by
  cases h <;> exact ⟨rfl, rfl⟩

theorem live (h : t.Evaluated cfg u) : u.live = t.live := by cases h <;> rfl

/-- An evaluation leaves CUR_ADDR, or latches an accepted address (R166). -/
theorem curAddr (h : t.Evaluated cfg u) : u.curAddr = t.curAddr ∨ accepts cfg u.curAddr = true := by
  cases h with
  | silent => exact .inl rfl
  | more => exact .inl rfl
  | line => exact .inl rfl
  | badPerm mine => exact .inr mine
  | nack exc mine => exact .inr mine
  | call i mine => exact .inr mine

end Inst.Evaluated

/-- OP_BYTE (R113, R115): the overflow, or an evaluation of the longer BUF. -/
theorem Inst.opByte_evaluated (cfg : Config) (asleep : Bool) (b : Byte) (t : Inst) :
    t.opByte cfg asleep b = (t.report .alive).doneError ∨
    (t.buf.length ≠ cfg.bufCap ∧ ((t.report .alive).accumulate b).Evaluated cfg (t.opByte cfg asleep b)) := by
  rcases t.opByte_cases cfg asleep b with ⟨-, h⟩ | ⟨hlen, h⟩
  · exact .inl h
  · exact .inr ⟨hlen, h ▸ Inst.evaluate_evaluated _ _ _⟩

/-! ### What an operation leaves alone -/

/-- OP_BYTE leaves STARTED and CRC_CHECK_EN. -/
theorem Inst.opByte_gate (cfg : Config) (asleep : Bool) (b : Byte) (t : Inst) :
    (t.opByte cfg asleep b).started = t.started ∧ (t.opByte cfg asleep b).crcCheckEn = t.crcCheckEn := by
  rcases t.opByte_evaluated cfg asleep b with h | ⟨-, h⟩
  · rw [h]; exact ⟨rfl, rfl⟩
  · exact h.gate

theorem Inst.opByte_live (cfg : Config) (asleep : Bool) (b : Byte) (t : Inst) :
    (t.opByte cfg asleep b).live = t.live ++ [.alive] := by
  rcases t.opByte_evaluated cfg asleep b with h | ⟨-, h⟩
  · rw [h]; rfl
  · exact h.live

theorem Inst.opByte_curAddr (cfg : Config) (asleep : Bool) (b : Byte) (t : Inst) :
    (t.opByte cfg asleep b).curAddr = t.curAddr ∨ accepts cfg (t.opByte cfg asleep b).curAddr = true := by
  rcases t.opByte_evaluated cfg asleep b with h | ⟨-, h⟩
  · rw [h]; exact .inl rfl
  · exact h.curAddr

/-- No operation writes STARTED or CRC_CHECK_EN. -/
theorem Inst.takeOp_gate (cfg : Config) (asleep : Bool) (w : BitVec 10) (t : Inst) :
    (t.takeOp cfg asleep w).started = t.started ∧ (t.takeOp cfg asleep w).crcCheckEn = t.crcCheckEn := by
  rcases t.takeOp_cases cfg asleep w with
    ⟨-, h⟩ | ⟨-, ⟨b, rest, -, -, h⟩ | ⟨-, -, h⟩ | ⟨-, -, h⟩ | ⟨-, h⟩⟩ <;> rw [h]
  case inr.inl => exact Inst.opByte_gate _ _ _ _
  all_goals exact ⟨rfl, rfl⟩

/-- An operation leaves CUR_ADDR, or latches an accepted address (R166). -/
theorem Inst.takeOp_curAddr (cfg : Config) (asleep : Bool) (w : BitVec 10) (t : Inst) :
    (t.takeOp cfg asleep w).curAddr = t.curAddr ∨ accepts cfg (t.takeOp cfg asleep w).curAddr = true := by
  rcases t.takeOp_cases cfg asleep w with
    ⟨-, h⟩ | ⟨-, ⟨b, rest, -, -, h⟩ | ⟨-, -, h⟩ | ⟨-, -, h⟩ | ⟨-, h⟩⟩ <;> rw [h]
  case inr.inl => exact Inst.opByte_curAddr _ _ _ _
  all_goals exact .inl rfl

theorem Inst.takeOp_of_selectOp_none {w : BitVec 10} {t : Inst} (h : t.selectOp w = none)
    (cfg : Config) (asleep : Bool) : t.takeOp cfg asleep w = t := by
  simp only [Inst.takeOp, h]

/-- The liveness reports of an operation of this kind (R40, R113, R118). -/
def reportsOfKind (k : BitVec 2) : List Liveness :=
  if k = 0 then [.alive] else if k = 1 then [.asleep] else []

theorem reportsOfKind_eq_nil {k : BitVec 2} (h0 : k ≠ 0) (h1 : k ≠ 1) : reportsOfKind k = [] := by
  rw [reportsOfKind, if_neg h0, if_neg h1]

/-- An operation that the engine takes makes the reports of its kind. -/
theorem Inst.takeOp_live {w : BitVec 10} {p : BitVec 10 × Inst} {t : Inst} (hsel : t.selectOp w = some p)
    (cfg : Config) (asleep : Bool) :
    (t.takeOp cfg asleep w).live = t.live ++ reportsOfKind (opKind w) := by
  rcases t.takeOp_cases cfg asleep w with
    ⟨hnone, -⟩ | ⟨-, ⟨b, rest, hk, -, h⟩ | ⟨hk, -, h⟩ | ⟨hk, -, h⟩ | ⟨hk, h⟩⟩
  · rw [hnone] at hsel; cases hsel
  · rw [h, hk, Inst.opByte_live]; rfl
  · rw [h, hk, Inst.opTimeout_live]; rfl
  · rw [h, hk, Inst.opClear_live]; exact (List.append_nil _).symm
  · rw [h, hk, Inst.raise_live]; exact (List.append_nil _).symm

/-! ### What a port event that is no operation leaves alone -/

theorem Inst.start_cases (t : Inst) :
    (t.faults = Faults.empty ∧ t.start = { t with started := true }) ∨
    (t.faults ≠ Faults.empty ∧ t.start = t) := by
  by_cases h : t.faults = Faults.empty
  · exact .inl ⟨h, if_pos h⟩
  · exact .inr ⟨h, if_neg h⟩

theorem Inst.cfgWrite_cases (v : Bool) (t : Inst) :
    (t.faults = Faults.empty ∧ t.cfgWrite v = { t with crcCheckEn := v }) ∨
    (t.faults ≠ Faults.empty ∧ t.cfgWrite v = t) := by
  by_cases h : t.faults = Faults.empty
  · exact .inl ⟨h, if_pos h⟩
  · exact .inr ⟨h, if_neg h⟩

/-- Two states of a channel that agree in STARTED, CRC_CHECK_EN, CUR_ADDR and the liveness reports. -/
structure Inst.SameControl (t u : Inst) : Prop where
  started : u.started = t.started
  crcCheckEn : u.crcCheckEn = t.crcCheckEn
  curAddr : u.curAddr = t.curAddr
  live : u.live = t.live

theorem Inst.SameControl.refl (t : Inst) : t.SameControl t := ⟨rfl, rfl, rfl, rfl⟩

theorem Inst.rxPush_sameControl (cfg : Config) (b : Byte) (t : Inst) : t.SameControl (t.rxPush cfg b) := by
  rcases t.rxPush_cases cfg b with ⟨-, h⟩ | ⟨-, -, h⟩ | ⟨-, -, h⟩ <;> rw [h] <;> exact ⟨rfl, rfl, rfl, rfl⟩

theorem Inst.rxResume_sameControl (cfg : Config) (t : Inst) : t.SameControl (t.rxResume cfg) := by
  rcases t.rxResume_cases cfg with ⟨-, h⟩ | ⟨b, rest, -, -, h⟩ <;> rw [h] <;> exact ⟨rfl, rfl, rfl, rfl⟩

theorem Inst.handlerReturn_sameControl (cfg : Config) (r : List Byte) (t : Inst) :
    t.SameControl (t.handlerReturn cfg r) := by
  rcases t.handlerReturn_cases cfg r with ⟨-, h⟩ | ⟨-, h⟩ | ⟨-, -, h⟩ <;> rw [h] <;> exact ⟨rfl, rfl, rfl, rfl⟩

theorem Inst.asciiReturn_sameControl (r : List Byte) (t : Inst) : t.SameControl (t.asciiReturn r) := by
  rcases t.asciiReturn_cases r with ⟨-, h⟩ | ⟨-, h⟩ | ⟨-, -, h⟩ <;> rw [h] <;> exact ⟨rfl, rfl, rfl, rfl⟩

theorem Inst.txByte_sameControl (t : Inst) : t.SameControl t.txByte := by
  rcases t.txByte_cases with ⟨-, h⟩ | ⟨b, -, -, h⟩ | ⟨b, -, -, h⟩ <;> rw [h] <;> exact ⟨rfl, rfl, rfl, rfl⟩

/-- A port event is an operation, start or cfg_write, or it leaves those elements alone. -/
theorem Inst.react_cases (cfg : Config) (asleep : Bool) (e : PortEvent) (t : Inst) :
    (∃ w, e = .op w ∧ t.react cfg asleep e = t.takeOp cfg asleep w) ∨
    (e = .start ∧ t.react cfg asleep e = t.start) ∨
    (∃ v, e = .cfgWrite v ∧ t.react cfg asleep e = t.cfgWrite v) ∨
    t.SameControl (t.react cfg asleep e) := by
  cases e with
  | op w => exact .inl ⟨w, rfl, rfl⟩
  | start => exact .inr (.inl ⟨rfl, rfl⟩)
  | cfgWrite v => exact .inr (.inr (.inl ⟨v, rfl, rfl⟩))
  | rxPush b => exact .inr (.inr (.inr (t.rxPush_sameControl cfg b)))
  | rxResume => exact .inr (.inr (.inr (t.rxResume_sameControl cfg)))
  | clear => exact .inr (.inr (.inr ⟨rfl, rfl, rfl, rfl⟩))
  | setAsciiMode v => exact .inr (.inr (.inr ⟨rfl, rfl, rfl, rfl⟩))
  | setSessionPerm v => exact .inr (.inr (.inr ⟨rfl, rfl, rfl, rfl⟩))
  | handlerRsp call r =>
    refine .inr (.inr (.inr ?_))
    simp only [Inst.react]
    split
    · exact t.handlerReturn_sameControl cfg r
    · exact .refl t
  | asciiRsp call r =>
    refine .inr (.inr (.inr ?_))
    simp only [Inst.react]
    split
    · exact t.asciiReturn_sameControl r
    · exact .refl t
  | txAccept =>
    refine .inr (.inr (.inr ?_))
    simp only [Inst.react]
    split
    · exact t.txByte_sameControl
    · exact .refl t

/-- STARTED is left alone or set by start (R26). -/
theorem Inst.react_started (cfg : Config) (asleep : Bool) (e : PortEvent) (t : Inst) :
    (t.react cfg asleep e).started = t.started ∨ (e = .start ∧ (t.react cfg asleep e).started = true) := by
  rcases t.react_cases cfg asleep e with ⟨w, -, h⟩ | ⟨he, h⟩ | ⟨v, -, h⟩ | h
  · rw [h]; exact .inl (t.takeOp_gate cfg asleep w).1
  · rcases t.start_cases with ⟨-, hs⟩ | ⟨-, hs⟩ <;> rw [h, hs]
    · exact .inr ⟨he, rfl⟩
    · exact .inl rfl
  · rcases t.cfgWrite_cases v with ⟨-, hv⟩ | ⟨-, hv⟩ <;> rw [h, hv] <;> exact .inl rfl
  · exact .inl h.started

/-- CRC_CHECK_EN is left alone or written by cfg_write (R33). -/
theorem Inst.react_crcCheckEn (cfg : Config) (asleep : Bool) (e : PortEvent) (t : Inst) :
    (t.react cfg asleep e).crcCheckEn = t.crcCheckEn ∨
      ∃ v, e = .cfgWrite v ∧ (t.react cfg asleep e).crcCheckEn = v := by
  rcases t.react_cases cfg asleep e with ⟨w, -, h⟩ | ⟨-, h⟩ | ⟨v, he, h⟩ | h
  · rw [h]; exact .inl (t.takeOp_gate cfg asleep w).2
  · rcases t.start_cases with ⟨-, hs⟩ | ⟨-, hs⟩ <;> rw [h, hs] <;> exact .inl rfl
  · rcases t.cfgWrite_cases v with ⟨-, hv⟩ | ⟨-, hv⟩ <;> rw [h, hv]
    · exact .inr ⟨v, he, rfl⟩
    · exact .inl rfl
  · exact .inl h.crcCheckEn

/-- CUR_ADDR is left alone or latched by an operation, at an accepted address (R25, R66). -/
theorem Inst.react_curAddr (cfg : Config) (asleep : Bool) (e : PortEvent) (t : Inst) :
    (t.react cfg asleep e).curAddr = t.curAddr ∨
      ((∃ w, e = .op w) ∧ accepts cfg (t.react cfg asleep e).curAddr = true) := by
  rcases t.react_cases cfg asleep e with ⟨w, he, h⟩ | ⟨-, h⟩ | ⟨v, -, h⟩ | h
  · rw [h]
    exact (t.takeOp_curAddr cfg asleep w).imp_right fun ha => ⟨⟨w, he⟩, ha⟩
  · rcases t.start_cases with ⟨-, hs⟩ | ⟨-, hs⟩ <;> rw [h, hs] <;> exact .inl rfl
  · rcases t.cfgWrite_cases v with ⟨-, hv⟩ | ⟨-, hv⟩ <;> rw [h, hv] <;> exact .inl rfl
  · exact .inl h.curAddr

/-- No port event but an operation makes a liveness report (R40). -/
theorem Inst.react_live (cfg : Config) (asleep : Bool) (e : PortEvent) (t : Inst) :
    (t.react cfg asleep e).live = t.live ∨ ∃ w p, e = .op w ∧ t.selectOp w = some p ∧
      (t.react cfg asleep e).live = t.live ++ reportsOfKind (opKind w) := by
  rcases t.react_cases cfg asleep e with ⟨w, he, h⟩ | ⟨-, h⟩ | ⟨v, -, h⟩ | h
  · rw [h]
    cases hsel : t.selectOp w with
    | none => exact .inl (by rw [Inst.takeOp_of_selectOp_none hsel])
    | some p => exact .inr ⟨w, p, he, hsel, Inst.takeOp_live hsel cfg asleep⟩
  · rcases t.start_cases with ⟨-, hs⟩ | ⟨-, hs⟩ <;> rw [h, hs] <;> exact .inl rfl
  · rcases t.cfgWrite_cases v with ⟨-, hv⟩ | ⟨-, hv⟩ <;> rw [h, hv] <;> exact .inl rfl
  · exact .inl h.live

/-! ### The statements about single elements -/

/-- Settles O50: no event writes the parameters. -/
theorem configurationNeverChanges : Obligations.ConfigurationNeverChanges :=
  fun _ _ => step_cfg

/-- Settles O44, by the effect of each port event. -/
theorem controlInputsChangeOnlyTheirOwn : Obligations.ControlInputsChangeOnlyTheirOwn := by
  intro s c v p rest t now
  refine ⟨fun hf hn => ?_, fun hf hn => ?_, fun hn => step_port hn, fun hn => step_port hn,
    fun hn => step_port hn, fun hn => step_setAsleep hn⟩
  · have hstart : t.start = { t with started := true } := if_pos hf
    rw [step_port hn, Inst.react, hstart]
  · have hwrite : t.cfgWrite v = { t with crcCheckEn := v } := if_pos hf
    rw [step_port hn, Inst.react, hwrite]

/-- Settles O54: from what a reset and each port event do to the two elements. -/
theorem gateAndCrcEnableWritesAreTheNamedOnes : Obligations.GateAndCrcEnableWritesAreTheNamedOnes := by
  intro s t e rest c hn hs
  rcases step_inst_cases hn hs c with ⟨rfl, h⟩ | ⟨p, rfl, h⟩ | h
  · exact ⟨fun _ => .inl ⟨rfl, by rw [h]; rfl⟩, fun _ => .inl ⟨rfl, by rw [h]; rfl⟩⟩
  · rw [h]
    constructor
    · intro hne
      obtain heq | ⟨rfl, hset⟩ := (s.inst c).react_started s.cfg s.sysAsleep p
      · exact absurd heq hne
      · exact .inr ⟨rfl, hset⟩
    · intro hne
      obtain heq | ⟨v, rfl, hset⟩ := (s.inst c).react_crcCheckEn s.cfg s.sysAsleep p
      · exact absurd heq hne
      · exact .inr ⟨v, rfl, hset⟩
  · exact ⟨fun hne => absurd (by rw [h]) hne, fun hne => absurd (by rw [h]) hne⟩

/-- Settles O58: a reset sets ADDR_PRIMARY, and of the port events only an operation latches. -/
theorem currentAddressIsAnAcceptedOne : Obligations.CurrentAddressIsAnAcceptedOne := by
  intro s t e rest c hn hs hne
  rcases step_inst_cases hn hs c with ⟨rfl, h⟩ | ⟨p, rfl, h⟩ | h
  · rw [h]
    exact ⟨by simp [accepts], .inl rfl⟩
  · rw [h] at hne ⊢
    obtain heq | ⟨⟨w, rfl⟩, hacc⟩ := (s.inst c).react_curAddr s.cfg s.sysAsleep p
    · exact absurd heq hne
    · exact ⟨hacc, .inr ⟨w, rfl⟩⟩
  · exact absurd (by rw [h]) hne

/-- An operation that the engine takes makes the reports of its kind, in the step that runs it. -/
theorem step_op_live {s t : State} {c : Chan} {w : BitVec 10} {p : BitVec 10 × Inst} {rest : List Event}
    (hn : s.NextEvent (.port c (.op w)) rest) (hs : step s = .next t) (hsel : (s.inst c).selectOp w = some p) :
    (t.inst c).live = (s.inst c).live ++ reportsOfKind (opKind w) := by
  rw [step_port hn] at hs
  cases hs
  exact (congrArg Inst.live (State.inst_setAct_active _ _)).trans (Inst.takeOp_live hsel _ _)

/-- Settles O56: the reports are those of the kind of the operation taken, if one is. -/
theorem livenessReportsAreExact : Obligations.LivenessReportsAreExact := by
  intro s t e rest c hn hs
  refine ⟨?_, ?_, fun hnone => ?_⟩
  · rintro ⟨w, w', u, rfl, hsel, hk⟩
    simpa [hk, reportsOfKind] using step_op_live hn hs hsel
  · rintro ⟨w, w', u, rfl, hsel, hk⟩
    simpa [hk, reportsOfKind] using step_op_live hn hs hsel
  · rcases step_inst_cases hn hs c with ⟨-, h⟩ | ⟨p, rfl, h⟩ | h
    · rw [h]; rfl
    · rw [h]
      obtain heq | ⟨w, ⟨w', u⟩, rfl, hsel, hlive⟩ := (s.inst c).react_live s.cfg s.sysAsleep p
      · exact heq
      · have h0 : opKind w ≠ 0 := fun hk => hnone ⟨w, w', u, rfl, hsel, .inl hk⟩
        have h1 : opKind w ≠ 1 := fun hk => hnone ⟨w, w', u, rfl, hsel, .inr hk⟩
        rw [hlive, reportsOfKind_eq_nil h0 h1, List.append_nil]
    · rw [h]

end Sys2Proof.Machine
end

section
/-! SUPPORT. The invariant of Sys2Proof/Safety.lean, kept by each operation and each port event. Where the
engine runs (started, no fault), it is the bounds and one clause for the present PHASE. -/

namespace Sys2Proof.Machine

/-! ### The invariant of a running channel -/

/-- What the invariant says of RSP, BUF, DISP_OUTCOME and the calls in each PHASE (R126, R173, R206). -/
def Inst.PhaseInv (t : Inst) : Prop :=
  match t.phase with
  | .recv => t.rsp = [] ∧ t.rspPos = 0
  | .waitHandler => t.buf = [] ∧ (t.rsp = [] ∧ t.rspPos = 0) ∧ t.dispOutcome = .none ∧ t.handlerReqs ≠ []
  | .waitAscii => t.buf = [] ∧ (t.rsp = [] ∧ t.rspPos = 0) ∧ t.dispOutcome = .doneAscii ∧ t.asciiReqs ≠ []
  | .txDrain => t.buf = [] ∧ t.rsp.length ≤ rspMax + 1 ∧ t.rspPos < t.rsp.length ∧
      (t.dispOutcome = .doneResponse ∨ t.dispOutcome = .doneAscii)

theorem Inst.phaseInv_recv {t : Inst} (hp : t.phase = .recv) :
    t.PhaseInv ↔ t.rsp = [] ∧ t.rspPos = 0 := by
  simp only [Inst.PhaseInv, hp]

theorem Inst.phaseInv_waitHandler {t : Inst} (hp : t.phase = .waitHandler) :
    t.PhaseInv ↔ t.buf = [] ∧ (t.rsp = [] ∧ t.rspPos = 0) ∧ t.dispOutcome = .none ∧ t.handlerReqs ≠ [] := by
  simp only [Inst.PhaseInv, hp]

theorem Inst.phaseInv_waitAscii {t : Inst} (hp : t.phase = .waitAscii) :
    t.PhaseInv ↔
      t.buf = [] ∧ (t.rsp = [] ∧ t.rspPos = 0) ∧ t.dispOutcome = .doneAscii ∧ t.asciiReqs ≠ [] := by
  simp only [Inst.PhaseInv, hp]

theorem Inst.phaseInv_txDrain {t : Inst} (hp : t.phase = .txDrain) :
    t.PhaseInv ↔ t.buf = [] ∧ t.rsp.length ≤ rspMax + 1 ∧ t.rspPos < t.rsp.length ∧
      (t.dispOutcome = .doneResponse ∨ t.dispOutcome = .doneAscii) := by
  simp only [Inst.PhaseInv, hp]

/-- The invariant of a started channel without a fault. -/
structure Inst.Running (cfg : Config) (t : Inst) : Prop where
  started : t.started = true
  faultFree : t.faults = Faults.empty
  rxqBound : t.rxq.length ≤ cfg.qDepth
  bufBound : t.buf.length ≤ cfg.bufCap
  holding : t.held ≠ [] → cfg.rxqFull = .blockProducer
  phaseInv : t.PhaseInv

/-- Outside RECV the channel has been started (R263). -/
theorem Inst.Inv.started_of_phase {cfg : Config} {t : Inst} (h : t.Inv cfg) (hp : t.phase ≠ .recv) :
    t.started = true := by
  cases hs : t.started with
  | true => rfl
  | false => exact absurd (h.notStarted hs).1 hp

theorem Inst.Inv.running {cfg : Config} {t : Inst} (h : t.Inv cfg) (hs : t.started = true)
    (hf : t.faults = Faults.empty) : t.Running cfg where
  started := hs
  faultFree := hf
  rxqBound := h.rxqBound
  bufBound := h.bufBound
  holding := h.holding
  phaseInv := by
    cases hp : t.phase with
    | recv => exact (Inst.phaseInv_recv hp).mpr (h.noResponse (by simp [hp]))
    | waitHandler =>
      exact (Inst.phaseInv_waitHandler hp).mpr
        ⟨h.noFrame (by simp [hp]), h.noResponse (by simp [hp]), h.inHandler hp⟩
    | waitAscii =>
      exact (Inst.phaseInv_waitAscii hp).mpr
        ⟨h.noFrame (by simp [hp]), h.noResponse (by simp [hp]), h.inAscii hp⟩
    | txDrain =>
      exact (Inst.phaseInv_txDrain hp).mpr
        ⟨h.noFrame (by simp [hp]), h.rspBound, h.draining hp, h.inDrain hp⟩

/-- Outside RECV, a channel without a fault runs. -/
theorem Inst.Inv.running_of_phase {cfg : Config} {t : Inst} (h : t.Inv cfg) (hp : t.phase ≠ .recv)
    (hf : t.faults = Faults.empty) : t.Running cfg :=
  h.running (h.started_of_phase hp) hf

/-- The PHASE in which a fault is raised (R121, R172, R176, R127). -/
def Fault.phase : Fault → Phase
  | .illegalOp => .recv
  | .badPerm => .recv
  | .rspOversize => .waitHandler
  | .asciiOversize => .waitAscii

theorem Faults.phase_of_engineMark (f : Fault) :
    (Faults.empty.add f).illegalOp = true ∨ (Faults.empty.add f).badPerm = true → f.phase = .recv := by
  cases f <;> decide

theorem Faults.phase_of_handlerMark (f : Fault) :
    (Faults.empty.add f).rspOversize = true → f.phase = .waitHandler := by
  cases f <;> decide

theorem Faults.phase_of_asciiMark (f : Fault) :
    (Faults.empty.add f).asciiOversize = true → f.phase = .waitAscii := by
  cases f <;> decide

namespace Inst.Running

variable {cfg : Config} {t : Inst}

theorem noResponse (h : t.Running cfg) (hp : t.phase ≠ .txDrain) : t.rsp = [] ∧ t.rspPos = 0 := by
  have hinv := h.phaseInv
  cases hph : t.phase with
  | recv => exact (Inst.phaseInv_recv hph).mp hinv
  | waitHandler => exact ((Inst.phaseInv_waitHandler hph).mp hinv).2.1
  | waitAscii => exact ((Inst.phaseInv_waitAscii hph).mp hinv).2.1
  | txDrain => exact absurd hph hp

theorem noFrame (h : t.Running cfg) (hp : t.phase ≠ .recv) : t.buf = [] := by
  have hinv := h.phaseInv
  cases hph : t.phase with
  | recv => exact absurd hph hp
  | waitHandler => exact ((Inst.phaseInv_waitHandler hph).mp hinv).1
  | waitAscii => exact ((Inst.phaseInv_waitAscii hph).mp hinv).1
  | txDrain => exact ((Inst.phaseInv_txDrain hph).mp hinv).1

theorem rspBound (h : t.Running cfg) : t.rsp.length ≤ rspMax + 1 := by
  by_cases hp : t.phase = .txDrain
  · exact ((Inst.phaseInv_txDrain hp).mp h.phaseInv).2.1
  · rw [(h.noResponse hp).1]
    exact Nat.zero_le _

/-- A running channel meets the invariant. -/
theorem inv (h : t.Running cfg) : t.Inv cfg where
  rxqBound := h.rxqBound
  bufBound := h.bufBound
  rspBound := h.rspBound
  draining hp := ((Inst.phaseInv_txDrain hp).mp h.phaseInv).2.2.1
  noResponse := h.noResponse
  noFrame := h.noFrame
  notStarted hs := by rw [h.started] at hs; cases hs
  holding := h.holding
  oneFault := .inl h.faultFree
  engineFault := by simp [h.faultFree, Faults.empty]
  handlerFault := by simp [h.faultFree, Faults.empty]
  asciiFault := by simp [h.faultFree, Faults.empty]
  inHandler hp := ((Inst.phaseInv_waitHandler hp).mp h.phaseInv).2.2
  inAscii hp := ((Inst.phaseInv_waitAscii hp).mp h.phaseInv).2.2
  inDrain hp := ((Inst.phaseInv_txDrain hp).mp h.phaseInv).2.2.2

/-- A running channel may raise the faults of its PHASE: the mark becomes the only one (R233). -/
theorem raise (h : t.Running cfg) {f : Fault} (hp : t.phase = f.phase) : (t.raise f).Inv cfg := by
  have hone : (t.raise f).faults = Faults.empty.add f := by rw [Inst.raise_faults, h.faultFree]
  exact { h.inv with
    notStarted := fun hs => by rw [Inst.raise_started, h.started] at hs; cases hs
    oneFault := .inr ⟨f, hone⟩
    engineFault := fun hm => hp.trans (Faults.phase_of_engineMark f (by rwa [hone] at hm))
    handlerFault := fun hm => hp.trans (Faults.phase_of_handlerMark f (by rwa [hone] at hm))
    asciiFault := fun hm => hp.trans (Faults.phase_of_asciiMark f (by rwa [hone] at hm)) }

/-! ### The transitions between phases -/

/-- In RECV, BUF and the two status outputs may change within the bound of BUF. -/
theorem setFrame (h : t.Running cfg) (hp : t.phase = .recv) {buf : List Byte} (hb : buf.length ≤ cfg.bufCap)
    (fs : FrameState) (d : DispOutcome) :
    Inst.Running cfg { t with buf := buf, frameState := fs, dispOutcome := d } :=
  { h with
    bufBound := hb
    phaseInv := (Inst.phaseInv_recv (by exact hp)).mpr ((Inst.phaseInv_recv hp).mp h.phaseInv) }

/-- A response that is not empty may be handed to TX where BUF is empty (R177, R202, R127). -/
theorem startTx (h : t.Running cfg) (hbuf : t.buf = []) {r : List Byte} (hne : r ≠ [])
    (hr : r.length ≤ rspMax + 1) {d : DispOutcome} (hd : d = .doneResponse ∨ d = .doneAscii) :
    Inst.Running cfg { t with rsp := r, rspPos := 0, phase := .txDrain, dispOutcome := d } :=
  { h with phaseInv := (Inst.phaseInv_txDrain rfl).mpr ⟨hbuf, hr, List.length_pos_iff.mpr hne, hd⟩ }

/-- Without a response the channel may go back to RECV (R176, R127, R228). -/
theorem toRecv (h : t.Running cfg) (tx : List Byte) (d : DispOutcome) :
    Inst.Running cfg { t with tx := tx, rsp := [], rspPos := 0, phase := .recv, dispOutcome := d } :=
  { h with phaseInv := (Inst.phaseInv_recv rfl).mpr ⟨rfl, rfl⟩ }

theorem latch (h : t.Running cfg) (a : Byte) : (t.latch a).Running cfg := { h with }

theorem report (h : t.Running cfg) (l : Liveness) : (t.report l).Running cfg := { h with }

theorem doneError (h : t.Running cfg) (hp : t.phase = .recv) : t.doneError.Running cfg :=
  h.setFrame hp (Nat.zero_le _) _ _

theorem opTimeout (h : t.Running cfg) (hp : t.phase = .recv) : t.opTimeout.Running cfg :=
  (h.report .asleep).setFrame hp (Nat.zero_le _) _ _

theorem opClear (h : t.Running cfg) (hp : t.phase = .recv) : t.opClear.Running cfg :=
  { h.doneError hp with }

/-- In RECV, a byte may be appended where BUF is not full (R114, R115). -/
theorem accumulate (h : t.Running cfg) (hp : t.phase = .recv) (hlen : t.buf.length ≠ cfg.bufCap) (b : Byte) :
    (t.accumulate b).Running cfg :=
  h.setFrame hp (by have := h.bufBound; simp; omega) _ t.dispOutcome

theorem respondNack (h : t.Running cfg) (func exc : Byte) : (t.respondNack cfg func exc).Running cfg :=
  { h with
    bufBound := Nat.zero_le _
    phaseInv := (Inst.phaseInv_txDrain rfl).mpr
      ⟨rfl, by simp [appendCrc, encodeNack, rspMax], by simp [appendCrc], .inl rfl⟩ }

theorem callHandler (h : t.Running cfg) (hp : t.phase = .recv) (i : Nat) (request : List Byte) :
    (t.callHandler i request).Running cfg :=
  { h with
    bufBound := Nat.zero_le _
    phaseInv := (Inst.phaseInv_waitHandler rfl).mpr ⟨rfl, (Inst.phaseInv_recv hp).mp h.phaseInv, rfl, by simp⟩ }

theorem callAscii (h : t.Running cfg) (hp : t.phase = .recv) : t.callAscii.Running cfg :=
  { h with
    bufBound := Nat.zero_le _
    phaseInv := (Inst.phaseInv_waitAscii rfl).mpr ⟨rfl, (Inst.phaseInv_recv hp).mp h.phaseInv, rfl, by simp⟩ }

/-! ### The operations and the returns -/

/-- Whatever an evaluation answers, the invariant holds after it. -/
theorem evaluated (h : t.Running cfg) (hp : t.phase = .recv) {u : Inst} (hu : t.Evaluated cfg u) :
    u.Inv cfg := by
  cases hu with
  | silent => exact (h.setFrame hp (Nat.zero_le _) t.frameState .doneSilent).inv
  | more => exact (h.setFrame hp h.bufBound t.frameState .processing).inv
  | line => exact (h.callAscii hp).inv
  | badPerm => exact (h.latch _).raise hp
  | nack => exact ((h.latch _).respondNack _ _).inv
  | @call F i _ => exact ((h.latch F.addr).callHandler hp i F.bytes).inv

theorem opByte (h : t.Running cfg) (hp : t.phase = .recv) (asleep : Bool) (b : Byte) :
    (t.opByte cfg asleep b).Inv cfg := by
  rcases t.opByte_evaluated cfg asleep b with heq | ⟨hlen, hev⟩
  · rw [heq]
    exact ((h.report .alive).doneError hp).inv
  · exact ((h.report .alive).accumulate hp hlen b).evaluated hp hev

theorem handlerReturn (h : t.Running cfg) (hp : t.phase = .waitHandler) (r : List Byte) :
    (t.handlerReturn cfg r).Inv cfg := by
  obtain ⟨hbuf, ⟨hrsp, hpos⟩, -, -⟩ := (Inst.phaseInv_waitHandler hp).mp h.phaseInv
  rcases t.handlerReturn_cases cfg r with ⟨-, heq⟩ | ⟨-, heq⟩ | ⟨-, hlen, heq⟩ <;> rw [heq]
  · exact h.raise hp
  · simpa only [hrsp, hpos] using (h.toRecv t.tx .doneSilent).inv
  · exact (h.startTx hbuf (by simp [appendCrc]) (by simp [appendCrc]; omega) (.inl rfl)).inv

theorem asciiReturn (h : t.Running cfg) (hp : t.phase = .waitAscii) (r : List Byte) :
    (t.asciiReturn r).Inv cfg := by
  obtain ⟨hbuf, ⟨hrsp, hpos⟩, hdisp, -⟩ := (Inst.phaseInv_waitAscii hp).mp h.phaseInv
  rcases t.asciiReturn_cases r with ⟨-, heq⟩ | ⟨-, heq⟩ | ⟨hne, hlen, heq⟩ <;> rw [heq]
  · exact h.raise hp
  · simpa only [hrsp, hpos] using (h.toRecv t.tx t.dispOutcome).inv
  · exact (h.startTx hbuf hne (by omega) (.inr hdisp)).inv

theorem txByte (h : t.Running cfg) (hp : t.phase = .txDrain) : t.txByte.Running cfg := by
  obtain ⟨hbuf, hbound, -, hdisp⟩ := (Inst.phaseInv_txDrain hp).mp h.phaseInv
  rcases t.txByte_cases with ⟨-, heq⟩ | ⟨b, -, -, heq⟩ | ⟨b, -, hlt, heq⟩ <;> rw [heq]
  · exact h
  · exact h.toRecv _ _
  · exact { h with phaseInv := (Inst.phaseInv_txDrain (by exact hp)).mpr ⟨hbuf, hbound, hlt, hdisp⟩ }

end Inst.Running

/-! ### The port events -/

/-- After a reset the invariant holds, whatever the channel was (R260). -/
theorem Inst.doReset_inv (cfg : Config) (t : Inst) : (t.doReset cfg).Inv cfg where
  rxqBound := Nat.zero_le _
  bufBound := Nat.zero_le _
  rspBound := Nat.zero_le _
  draining hp := by cases hp
  noResponse _ := ⟨rfl, rfl⟩
  noFrame _ := rfl
  notStarted _ := ⟨rfl, rfl, rfl⟩
  holding hh := absurd rfl hh
  oneFault := .inl rfl
  engineFault _ := rfl
  handlerFault hf := by cases hf
  asciiFault hf := by cases hf
  inHandler hp := by cases hp
  inAscii hp := by cases hp
  inDrain hp := by cases hp

theorem Inst.awaitsHandler_iff (call : Nat) (t : Inst) : t.awaitsHandler call = true ↔
    t.phase = .waitHandler ∧ t.faults = Faults.empty ∧ call = t.handlerReqs.length := by
  simp [Inst.awaitsHandler, and_assoc]

theorem Inst.awaitsAscii_iff (call : Nat) (t : Inst) : t.awaitsAscii call = true ↔
    t.phase = .waitAscii ∧ t.faults = Faults.empty ∧ call = t.asciiReqs.length := by
  simp [Inst.awaitsAscii, and_assoc]

theorem Inst.awaitsTx_iff (t : Inst) : t.awaitsTx = true ↔ t.phase = .txDrain ∧ t.faults = Faults.empty := by
  simp [Inst.awaitsTx]

namespace Inst.Inv

variable {cfg : Config} {t : Inst}

theorem rxPush (h : t.Inv cfg) (b : Byte) : (t.rxPush cfg b).Inv cfg := by
  rcases t.rxPush_cases cfg b with ⟨hroom, heq⟩ | ⟨-, -, heq⟩ | ⟨hblock, -, heq⟩ <;> rw [heq]
  · exact { h with rxqBound := by simpa using hroom }
  · exact h
  · exact { h with holding := fun _ => hblock }

theorem rxResume (h : t.Inv cfg) : (t.rxResume cfg).Inv cfg := by
  rcases t.rxResume_cases cfg with ⟨-, heq⟩ | ⟨b, rest, hheld, hroom, heq⟩ <;> rw [heq]
  · exact h
  · exact { h with rxqBound := by simpa using hroom, holding := fun _ => h.holding (by simp [hheld]) }

theorem start (h : t.Inv cfg) : t.start.Inv cfg := by
  rcases t.start_cases with ⟨-, heq⟩ | ⟨-, heq⟩ <;> rw [heq]
  · exact { h with notStarted := fun hs => by cases hs }
  · exact h

theorem cfgWrite (h : t.Inv cfg) (v : Bool) : (t.cfgWrite v).Inv cfg := by
  rcases t.cfgWrite_cases v with ⟨-, heq⟩ | ⟨-, heq⟩ <;> rw [heq]
  · exact { h with }
  · exact h

/-- An offered operation word: nothing, or an operation of a running channel in RECV (R112). -/
theorem takeOp (h : t.Inv cfg) (asleep : Bool) (w : BitVec 10) : (t.takeOp cfg asleep w).Inv cfg := by
  rcases t.takeOp_cases cfg asleep w with ⟨-, heq⟩ | ⟨hen, hop⟩
  · rw [heq]; exact h
  · obtain ⟨hs, hp, hf⟩ := t.enabled_iff.mp hen
    have hrun : t.Running cfg := h.running hs hf
    rcases hop with ⟨b, rest, -, hq, heq⟩ | ⟨-, -, heq⟩ | ⟨-, -, heq⟩ | ⟨-, heq⟩ <;> rw [heq]
    · have hrest : rest.length ≤ cfg.qDepth := by
        have := h.rxqBound
        rw [hq, List.length_cons] at this
        omega
      have hpop : Inst.Running cfg { t with rxq := rest } := { hrun with rxqBound := hrest }
      exact hpop.opByte hp asleep b
    · exact (hrun.opTimeout hp).inv
    · exact (hrun.opClear hp).inv
    · exact hrun.raise hp

/-- Every port event keeps the invariant of its channel. -/
theorem react (h : t.Inv cfg) (asleep : Bool) (e : PortEvent) : (t.react cfg asleep e).Inv cfg := by
  cases e with
  | rxPush b => exact h.rxPush b
  | rxResume => exact h.rxResume
  | op w => exact h.takeOp asleep w
  | clear => exact { h with }
  | start => exact h.start
  | cfgWrite v => exact h.cfgWrite v
  | setAsciiMode v => exact { h with }
  | setSessionPerm v => exact { h with }
  | handlerRsp call r =>
    simp only [Inst.react]
    split
    · rename_i haw
      obtain ⟨hp, hf, -⟩ := (t.awaitsHandler_iff call).mp haw
      exact (h.running_of_phase (by simp [hp]) hf).handlerReturn hp r
    · exact h
  | asciiRsp call r =>
    simp only [Inst.react]
    split
    · rename_i haw
      obtain ⟨hp, hf, -⟩ := (t.awaitsAscii_iff call).mp haw
      exact (h.running_of_phase (by simp [hp]) hf).asciiReturn hp r
    · exact h
  | txAccept =>
    simp only [Inst.react]
    split
    · rename_i haw
      obtain ⟨hp, hf⟩ := t.awaitsTx_iff.mp haw
      exact ((h.running_of_phase (by simp [hp]) hf).txByte hp).inv
    · exact h

end Inst.Inv

/-- Settles O46: a reset establishes the invariant, and each port event keeps that of its channel. -/
theorem everyStepKeepsTheInvariant : Obligations.EveryStepKeepsTheInvariant := by
  intro s t hinv hs c
  rw [step_cfg hs]
  obtain ⟨-, ⟨-, rfl⟩ | ⟨e, rest, hn, -⟩⟩ := step_next_cases hs
  · exact hinv c
  · rcases step_inst_cases hn hs c with ⟨-, h⟩ | ⟨p, -, h⟩ | h <;> rw [h]
    · exact (s.inst c).doReset_inv s.cfg
    · exact (hinv c).react s.sysAsleep p
    · exact hinv c

end Sys2Proof.Machine
end

section
/-! SUPPORT. RXQ and the wire of one channel (20_memory R67): what each operation and each port event does
to them, and the two statements that follow. -/

namespace Sys2Proof.Machine

/-! ### What leaves RXQ and the wire alone -/

/-- Two states of a channel that agree in RXQ and in the bytes the TX port accepted. -/
structure Inst.SameQueues (t u : Inst) : Prop where
  rxq : u.rxq = t.rxq
  tx : u.tx = t.tx

theorem Inst.SameQueues.refl (t : Inst) : t.SameQueues t := ⟨rfl, rfl⟩

/-- No evaluation writes RXQ or the wire: a NACK waits in RSP (R202). -/
theorem Inst.Evaluated.sameQueues {cfg : Config} {t u : Inst} (h : t.Evaluated cfg u) : t.SameQueues u := by
  cases h <;> exact ⟨rfl, rfl⟩

/-- OP_BYTE, once its byte is popped, leaves both alone. -/
theorem Inst.opByte_sameQueues (cfg : Config) (asleep : Bool) (b : Byte) (t : Inst) :
    t.SameQueues (t.opByte cfg asleep b) := by
  rcases t.opByte_evaluated cfg asleep b with h | ⟨-, h⟩
  · rw [h]; exact ⟨rfl, rfl⟩
  · exact ⟨h.sameQueues.rxq, h.sameQueues.tx⟩

/-- An offered operation word leaves both alone, but that an OP_BYTE pops the head of RXQ (R80, R112). -/
theorem Inst.takeOp_queues (cfg : Config) (asleep : Bool) (w : BitVec 10) (t : Inst) :
    t.SameQueues (t.takeOp cfg asleep w) ∨
      (opKind w = 0 ∧ (∃ b, t.rxq = b :: (t.takeOp cfg asleep w).rxq) ∧
        (t.takeOp cfg asleep w).tx = t.tx) := by
  rcases t.takeOp_cases cfg asleep w with
    ⟨-, h⟩ | ⟨-, ⟨b, rest, hk, hq, h⟩ | ⟨-, -, h⟩ | ⟨-, -, h⟩ | ⟨-, h⟩⟩ <;> rw [h]
  case inr.inl =>
    have hsame := Inst.opByte_sameQueues cfg asleep b { t with rxq := rest }
    exact .inr ⟨hk, ⟨b, by rw [hsame.rxq, hq]⟩, hsame.tx⟩
  all_goals exact .inl ⟨rfl, rfl⟩

theorem Inst.start_sameQueues (t : Inst) : t.SameQueues t.start := by
  rcases t.start_cases with ⟨-, h⟩ | ⟨-, h⟩ <;> rw [h] <;> exact ⟨rfl, rfl⟩

theorem Inst.cfgWrite_sameQueues (v : Bool) (t : Inst) : t.SameQueues (t.cfgWrite v) := by
  rcases t.cfgWrite_cases v with ⟨-, h⟩ | ⟨-, h⟩ <;> rw [h] <;> exact ⟨rfl, rfl⟩

theorem Inst.handlerReturn_sameQueues (cfg : Config) (r : List Byte) (t : Inst) :
    t.SameQueues (t.handlerReturn cfg r) := by
  rcases t.handlerReturn_cases cfg r with ⟨-, h⟩ | ⟨-, h⟩ | ⟨-, -, h⟩ <;> rw [h] <;> exact ⟨rfl, rfl⟩

theorem Inst.asciiReturn_sameQueues (r : List Byte) (t : Inst) : t.SameQueues (t.asciiReturn r) := by
  rcases t.asciiReturn_cases r with ⟨-, h⟩ | ⟨-, h⟩ | ⟨-, -, h⟩ <;> rw [h] <;> exact ⟨rfl, rfl⟩

/-- A port event is a push, the completion of one, an operation or a TX acceptance, or it leaves RXQ and
the wire alone. -/
theorem Inst.react_sameQueues_or (cfg : Config) (asleep : Bool) (e : PortEvent) (t : Inst) :
    (∃ b, e = .rxPush b) ∨ e = .rxResume ∨ (∃ w, e = .op w) ∨ e = .txAccept ∨
      t.SameQueues (t.react cfg asleep e) := by
  cases e with
  | rxPush b => exact .inl ⟨b, rfl⟩
  | rxResume => exact .inr (.inl rfl)
  | op w => exact .inr (.inr (.inl ⟨w, rfl⟩))
  | txAccept => exact .inr (.inr (.inr (.inl rfl)))
  | clear => exact .inr (.inr (.inr (.inr ⟨rfl, rfl⟩)))
  | start => exact .inr (.inr (.inr (.inr t.start_sameQueues)))
  | cfgWrite v => exact .inr (.inr (.inr (.inr (t.cfgWrite_sameQueues v))))
  | setAsciiMode v => exact .inr (.inr (.inr (.inr ⟨rfl, rfl⟩)))
  | setSessionPerm v => exact .inr (.inr (.inr (.inr ⟨rfl, rfl⟩)))
  | handlerRsp call r =>
    refine .inr (.inr (.inr (.inr ?_)))
    simp only [Inst.react]
    split
    · exact t.handlerReturn_sameQueues cfg r
    · exact .refl t
  | asciiRsp call r =>
    refine .inr (.inr (.inr (.inr ?_)))
    simp only [Inst.react]
    split
    · exact t.asciiReturn_sameQueues r
    · exact .refl t

/-! ### Pushes and transmission -/

/-- A push, whether accepted, dropped or blocked, writes at the tail of RXQ or not at all (R110). -/
theorem Inst.rxPush_queues (cfg : Config) (b : Byte) (t : Inst) :
    ((t.rxPush cfg b).rxq = t.rxq ∨ (t.rxPush cfg b).rxq = t.rxq ++ [b]) ∧ (t.rxPush cfg b).tx = t.tx := by
  rcases t.rxPush_cases cfg b with ⟨-, h⟩ | ⟨-, -, h⟩ | ⟨-, -, h⟩ <;> rw [h]
  · exact ⟨.inr rfl, rfl⟩
  · exact ⟨.inl rfl, rfl⟩
  · exact ⟨.inl rfl, rfl⟩

/-- The completion of a blocked push writes the oldest held byte at the tail of RXQ, or nothing (R110). -/
theorem Inst.rxResume_queues (cfg : Config) (t : Inst) :
    ((t.rxResume cfg).rxq = t.rxq ∨
      ∃ b, t.held.head? = some b ∧ (t.rxResume cfg).rxq = t.rxq ++ [b]) ∧ (t.rxResume cfg).tx = t.tx := by
  rcases t.rxResume_cases cfg with ⟨-, h⟩ | ⟨b, rest, hheld, -, h⟩ <;> rw [h]
  · exact ⟨.inl rfl, rfl⟩
  · exact ⟨.inr ⟨b, by rw [hheld]; rfl, rfl⟩, rfl⟩

/-- A TX acceptance writes the byte of RSP at RSP_POS on the wire, or nothing (R206). -/
theorem Inst.txByte_queues (t : Inst) :
    (t.txByte.tx = t.tx ∨ ∃ b, t.rsp[t.rspPos]? = some b ∧ t.txByte.tx = t.tx ++ [b]) ∧
      t.txByte.rxq = t.rxq := by
  rcases t.txByte_cases with ⟨-, h⟩ | ⟨b, hb, -, h⟩ | ⟨b, hb, -, h⟩ <;> rw [h]
  · exact ⟨.inl rfl, rfl⟩
  · exact ⟨.inr ⟨b, hb, rfl⟩, rfl⟩
  · exact ⟨.inr ⟨b, hb, rfl⟩, rfl⟩

/-- Outside TX_DRAIN a TX acceptance changes nothing (R206). -/
theorem Inst.react_txAccept_cases (cfg : Config) (asleep : Bool) (t : Inst) :
    (t.phase = .txDrain ∧ t.react cfg asleep .txAccept = t.txByte) ∨
      t.react cfg asleep .txAccept = t := by
  simp only [Inst.react]
  split
  · rename_i haw
    exact .inl ⟨(t.awaitsTx_iff.mp haw).1, rfl⟩
  · exact .inr rfl

/-! ### RXQ and the wire under a port event -/

/-- The wire is left alone, or an acceptance puts the byte of RSP at RSP_POS on it (R206). -/
theorem Inst.react_tx (cfg : Config) (asleep : Bool) (e : PortEvent) (t : Inst) :
    (t.react cfg asleep e).tx = t.tx ∨
      (e = .txAccept ∧ t.phase = .txDrain ∧
        ∃ b, t.rsp[t.rspPos]? = some b ∧ (t.react cfg asleep e).tx = t.tx ++ [b]) := by
  rcases t.react_sameQueues_or cfg asleep e with ⟨b, rfl⟩ | rfl | ⟨w, rfl⟩ | rfl | h
  · exact .inl (t.rxPush_queues cfg b).2
  · exact .inl (t.rxResume_queues cfg).2
  · rcases t.takeOp_queues cfg asleep w with h | ⟨-, -, h⟩
    · exact .inl h.tx
    · exact .inl h
  · rcases t.react_txAccept_cases cfg asleep with ⟨hp, h⟩ | h <;> rw [h]
    · exact t.txByte_queues.1.imp_right fun hb => ⟨rfl, hp, hb⟩
    · exact .inl rfl
  · exact .inl h.tx

/-- RXQ is left alone, gains a byte at its tail from a push or its completion, or loses its head to an
OP_BYTE (R110, R112). -/
theorem Inst.react_rxq (cfg : Config) (asleep : Bool) (e : PortEvent) (t : Inst) :
    (t.react cfg asleep e).rxq = t.rxq ∨
      (∃ b, (t.react cfg asleep e).rxq = t.rxq ++ [b] ∧
        (e = .rxPush b ∨ e = .rxResume ∧ t.held.head? = some b)) ∨
      (∃ b w, t.rxq = b :: (t.react cfg asleep e).rxq ∧ e = .op w ∧ opKind w = 0) := by
  rcases t.react_sameQueues_or cfg asleep e with ⟨b, rfl⟩ | rfl | ⟨w, rfl⟩ | rfl | h
  · exact (t.rxPush_queues cfg b).1.imp_right fun h => .inl ⟨b, h, .inl rfl⟩
  · exact (t.rxResume_queues cfg).1.imp_right fun ⟨b, hb, h⟩ => .inl ⟨b, h, .inr ⟨rfl, hb⟩⟩
  · rcases t.takeOp_queues cfg asleep w with h | ⟨hk, ⟨b, hb⟩, -⟩
    · exact .inl h.rxq
    · exact .inr (.inr ⟨b, w, hb, rfl, hk⟩)
  · rcases t.react_txAccept_cases cfg asleep with ⟨-, h⟩ | h <;> rw [h]
    · exact .inl t.txByte_queues.2
    · exact .inl rfl
  · exact .inl h.rxq

/-! ### The statements about the two queues -/

/-- Settles O45: a reset leaves the wire, and of the port events only a TX acceptance writes it. -/
theorem onlyTransmitStepsWriteTheWire : Obligations.OnlyTransmitStepsWriteTheWire := by
  intro s t e rest c hn hs
  rcases step_inst_cases hn hs c with ⟨-, h⟩ | ⟨p, rfl, h⟩ | h <;> rw [h]
  · exact .inl rfl
  · exact ((s.inst c).react_tx s.cfg s.sysAsleep p).imp_right fun ⟨he, hp, hb⟩ => ⟨by rw [he], hp, hb⟩
  · exact .inl rfl

/-- Settles O57: of the port events a push, its completion and an OP_BYTE write RXQ, each at its own end. -/
theorem receiveQueueIsFifo : Obligations.ReceiveQueueIsFifo := by
  intro s t e rest c hn hs hreset
  rcases step_inst_cases hn hs c with ⟨he, -⟩ | ⟨p, rfl, h⟩ | h
  · exact absurd he hreset
  · rw [h]
    rcases (s.inst c).react_rxq s.cfg s.sysAsleep p with
      hsame | ⟨b, htail, rfl | ⟨rfl, hheld⟩⟩ | ⟨b, w, hhead, rfl, hk⟩
    · exact .inl hsame
    · exact .inr (.inl ⟨b, htail, .inl rfl⟩)
    · exact .inr (.inl ⟨b, htail, .inr ⟨rfl, hheld⟩⟩)
    · exact .inr (.inr ⟨b, w, hhead, rfl, hk⟩)
  · exact .inl (by rw [h])

end Sys2Proof.Machine
end

section
/-! SUPPORT. The decoder and the encoder (30_encoding R80-R89): per port, which bytes decode and to what,
and the statements about the encoding that follow. -/

namespace Sys2Proof

open Machine

/-! ### Operation words (R80, R81) -/

theorem decodeOp_eq_opByte {w : BitVec 10} (h : opKind w = 0) : decodeOp w = .opByte (opData w) := by
  simp [decodeOp, h]

theorem decodeOp_eq_opTimeout {w : BitVec 10} (h : opKind w = 1) : decodeOp w = .opTimeout := by
  simp [decodeOp, h]

theorem decodeOp_eq_opClear {w : BitVec 10} (h : opKind w = 2) : decodeOp w = .opClear := by
  simp [decodeOp, h]

theorem decodeOp_eq_opReserved {w : BitVec 10} (h : opKind w = 3) : decodeOp w = .opReserved := by
  simp [decodeOp, h]

/-- Two bytes, the first a kind, are the operation word with that kind and data field. -/
theorem decode_opWord_bytes (k : BitVec 2) (d : Byte) :
    decode .opWord [k.setWidth 8, d] = .instr (decodeOp (opWord k d)) := by
  have hk : (k.setWidth 8).toNat < 4 := by
    rw [BitVec.toNat_setWidth]
    omega
  have hkind : (k.setWidth 8).truncate 2 = k := by simp
  simp only [decode, if_pos hk, hkind]

theorem decode_opByte (d : Byte) : decode .opWord [0x00, d] = .instr (.opByte d) :=
  (decode_opWord_bytes 0 d).trans (congrArg _ (decodeOp_opWord d))

theorem decode_opTimeout (d : Byte) : decode .opWord [0x01, d] = .instr .opTimeout :=
  (decode_opWord_bytes 1 d).trans (congrArg _ (decodeOp_eq_opTimeout (opKind_opWord 1 d)))

theorem decode_opClear (d : Byte) : decode .opWord [0x02, d] = .instr .opClear :=
  (decode_opWord_bytes 2 d).trans (congrArg _ (decodeOp_eq_opClear (opKind_opWord 2 d)))

theorem decode_opReserved (d : Byte) : decode .opWord [0x03, d] = .instr .opReserved :=
  (decode_opWord_bytes 3 d).trans (congrArg _ (decodeOp_eq_opReserved (opKind_opWord 3 d)))

/-! ### Request frames (R82-R84, R90) -/

theorem instrOfFrame_funcTable (a : Byte) {f : Byte} (h10 : f ≠ 0x10) (hFF : f ≠ 0xFF) (d : List Byte)
    (c : Byte) : instrOfFrame ⟨a, f, d, c⟩ = .funcTable a f d c := by
  rw [instrOfFrame, if_neg h10, if_neg hFF]

theorem funcTable_wf_iff (a f : Byte) (d : List Byte) (c : Byte) :
    (Instr.funcTable a f d c).wf = true ↔ d.length ≤ 255 ∧ f ≠ 0x10 ∧ f ≠ 0xFF := by
  rw [Instr.wf, Bool.and_eq_true, Bool.and_eq_true, decide_eq_true_iff, bne_iff_ne, bne_iff_ne, and_assoc]

/-- The row of an encodable frame is a well-formed request instruction with exactly the frame's bytes. -/
theorem instrOfFrame_spec {F : Frame} (hd : F.data.length ≤ 255) :
    encode (instrOfFrame F) = F.bytes ∧ (instrOfFrame F).wf = true ∧ (instrOfFrame F).port = .request := by
  obtain ⟨a, f, d, c⟩ := F
  by_cases h10 : f = 0x10
  · subst h10
    exact ⟨rfl, decide_eq_true hd, rfl⟩
  · by_cases hFF : f = 0xFF
    · subst hFF
      exact ⟨rfl, decide_eq_true hd, rfl⟩
    · rw [instrOfFrame_funcTable a h10 hFF d c]
      exact ⟨rfl, (funcTable_wf_iff a f d c).mpr ⟨hd, h10, hFF⟩, rfl⟩

/-- The bytes that decode at the request port are the encodable frames, each as the row of its function
code (R84: nothing is missing and nothing is left over). -/
theorem decode_request_iff (s : List Byte) (i : Instr) :
    decode .request s = .instr i ↔ ∃ F : Frame, s = F.bytes ∧ F.data.length ≤ 255 ∧ i = instrOfFrame F := by
  constructor
  · intro h
    cases hp : parseFrame s with
    | none => simp [decode, decodeRequest, hp] at h
    | some p =>
      obtain ⟨F, after⟩ := p
      cases after with
      | nil =>
        obtain ⟨hs, hd⟩ := parseFrame_some hp
        simp only [decode, decodeRequest, hp, Option.map_some, Decoded.instr.injEq] at h
        exact ⟨F, by simpa using hs, hd, h.symm⟩
      | cons b tail => simp [decode, decodeRequest, hp] at h
  · rintro ⟨F, rfl, hd, rfl⟩
    simp [decode, decodeRequest, parseFrame_bytes F hd]

theorem decode_frame_bytes {F : Frame} (hd : F.data.length ≤ 255) :
    decode .request F.bytes = .instr (instrOfFrame F) :=
  (decode_request_iff _ _).mpr ⟨F, rfl, hd, rfl⟩

/-! ### Lines (R89) -/

/-- The bytes that decode at the line port are those ended by CR LF, as the line of what stands before. -/
theorem decode_line_iff (s : List Byte) (i : Instr) :
    decode .line s = .instr i ↔ ∃ content, s = lineBytes content ∧ i = .asciiLine content := by
  constructor
  · intro h
    cases hp : parseLine s with
    | none => simp [decode, hp] at h
    | some content =>
      simp only [decode, hp, Decoded.instr.injEq] at h
      exact ⟨content, parseLine_some hp, h.symm⟩
  · rintro ⟨content, rfl, rfl⟩
    simp [decode, parseLine_lineBytes]

/-! ### Responses (R85-R88) -/

theorem decode_response_iff (r : List Byte) (i : Instr) :
    decode .response r = .instr i ↔ decodeResponse r = some i := by
  cases h : decodeResponse r <;> simp [decode, h]

theorem decode_encodeAck (a f : Byte) : decode .response (encodeAck a f) = .instr (.rspAck a f) :=
  (decode_response_iff _ _).mpr rfl

theorem decode_encodeNack (a f e : Byte) : decode .response (encodeNack a f e) = .instr (.rspNack a f e) :=
  (decode_response_iff _ _).mpr rfl

/-- A RESP's bytes decode to it where they are not an ACK's or a NACK's: that depends on how many data
bytes there are and, for one or two, on the first (R88). -/
theorem decode_encodeResp (a f : Byte) {d : List Byte} (hd : d.length ≤ 255)
    (hshape : (Instr.rspResp a f d).ackOrNackShaped = false) :
    decode .response (encodeResp a f d) = .instr (.rspResp a f d) := by
  rw [decode_response_iff, encodeResp]
  have hlen := lenByte_toNat hd
  match d with
  | [] => rfl
  | [z] => simpa [decodeResponse, hlen, Instr.ackOrNackShaped] using hshape
  | [z, e] => simpa [decodeResponse, hlen, Instr.ackOrNackShaped] using hshape
  | z :: e :: e' :: rest => simp [decodeResponse, hlen]

/-- An encodable RESP runs as a handler's return of its bytes (R176, R203), whatever they look like. -/
theorem exec_rspResp (a f : Byte) {d : List Byte} (hd : d.length ≤ 255) (s : State) :
    exec (.rspResp a f d) s = .next (s.answer (encodeResp a f d)) := by
  simp [exec, execRspResp, hd]

/-! ### The statements about the encoding -/

/-- Settles O3, by the constructors of `Instr`: each is read back by the rule of its port. -/
theorem decodeEncodeRoundTrip : Obligations.DecodeEncodeRoundTrip := by
  intro i hwf hshape
  cases i with
  | opByte b => exact decode_opByte b
  | opTimeout => exact decode_opTimeout 0x00
  | opClear => exact decode_opClear 0x00
  | opReserved => exact decode_opReserved 0x00
  | func10 a d c => exact decode_frame_bytes (F := ⟨a, 0x10, d, c⟩) (of_decide_eq_true hwf)
  | funcSentinel a d c => exact decode_frame_bytes (F := ⟨a, 0xFF, d, c⟩) (of_decide_eq_true hwf)
  | funcTable a f d c =>
    obtain ⟨hd, h10, hFF⟩ := (funcTable_wf_iff a f d c).mp hwf
    exact (decode_frame_bytes (F := ⟨a, f, d, c⟩) hd).trans
      (congrArg _ (instrOfFrame_funcTable a h10 hFF d c))
  | rspAck a f => exact decode_encodeAck a f
  | rspNack a f e => exact decode_encodeNack a f e
  | rspResp a f d => exact decode_encodeResp a f (of_decide_eq_true hwf) hshape
  | asciiLine content => exact (decode_line_iff _ _).mpr ⟨content, rfl, rfl⟩

/-- Settles O5, by the port: what decodes there is a frame, a line or a response of the rule's layout. -/
theorem decodedBytesAreTheEncoding : Obligations.DecodedBytesAreTheEncoding := by
  intro p bytes i hp h
  cases p with
  | opWord => exact absurd rfl hp
  | request =>
    obtain ⟨F, rfl, hd, rfl⟩ := (decode_request_iff _ _).mp h
    exact instrOfFrame_spec hd
  | line =>
    obtain ⟨content, rfl, rfl⟩ := (decode_line_iff _ _).mp h
    exact ⟨rfl, rfl, rfl⟩
  | response =>
    obtain ⟨henc, ⟨a, f, rfl⟩ | ⟨a, f, e, rfl⟩ | ⟨a, f, d, rfl, hd, -⟩⟩ :=
      decodeResponse_some ((decode_response_iff _ _).mp h)
    · exact ⟨henc, rfl, rfl⟩
    · exact ⟨henc, rfl, rfl⟩
    · exact ⟨henc, decide_eq_true hd, rfl⟩

/-- Settles O1: but for the OP_TIMEOUT word, whose data field is ignored (R81), each word is the encoding
of its instruction, so the round trip reads it back. -/
theorem writtenOutWordsDecode : Obligations.WrittenOutWordsDecode :=
  ⟨decodeEncodeRoundTrip (.opByte 0x41) rfl rfl,
   decode_opTimeout 0xFF,
   decodeEncodeRoundTrip .opClear rfl rfl,
   decodeEncodeRoundTrip .opReserved rfl rfl,
   decodeEncodeRoundTrip (.func10 0x01 [] 0x3C) rfl rfl,
   decodeEncodeRoundTrip (.funcSentinel 0x01 [] 0xBC) rfl rfl,
   decodeEncodeRoundTrip (.funcTable 0x01 0x20 [0xAA, 0x55] 0x4C) rfl rfl,
   decodeEncodeRoundTrip (.rspAck 0x01 0x10) rfl rfl,
   decodeEncodeRoundTrip (.rspNack 0x01 0x10 0x05) rfl rfl,
   decodeEncodeRoundTrip (.rspResp 0x01 0x21 [0x11, 0x22, 0x33]) rfl rfl,
   decodeEncodeRoundTrip (.asciiLine [0x4F, 0x4B]) rfl rfl⟩

/-- Settles O2: one equation of `decodeOp` for each kind. -/
theorem operationKindSelectsOperation : Obligations.OperationKindSelectsOperation :=
  fun _ => ⟨decodeOp_eq_opByte, decodeOp_eq_opTimeout, decodeOp_eq_opClear, decodeOp_eq_opReserved⟩

/-- Settles O4: the bytes are the ACK's or the NACK's own, and each of the three runs as a handler's
return of its bytes. -/
theorem shapedRespDecodesAsAckOrNack : Obligations.ShapedRespDecodesAsAckOrNack := by
  intro a f e s
  refine ⟨decode_encodeAck a f, ?_, decode_encodeNack a f e, ?_⟩
  · exact exec_rspResp a f (d := [0x00]) (by simp) s
  · exact exec_rspResp a f (d := [0x00, e]) (by simp) s

end Sys2Proof
end

section
/-! SUPPORT. The codec (40_byte_queue_framer R116-R123): codec_state by the length and the length byte in
binary mode, by the CR LF at the end in ASCII mode, and what it says along a frame. -/

namespace Sys2Proof.Machine

/-! ### Binary mode (R117, R123) -/

theorem codecBinary_of_length_lt_three {s : List Byte} (h : s.length < 3) : codecBinary s = .processing := by
  match s with
  | [] => rfl
  | [_] => rfl
  | [_, _] => rfl
  | _ :: _ :: _ :: _ => simp only [List.length_cons] at h; omega

/-- Once the length byte is there, it decides (R117). -/
theorem codecBinary_of_getElem?_two {s : List Byte} {n : Byte} (h : s[2]? = some n) :
    codecBinary s = if s.length < 4 + n.toNat then .processing else .completeFrame := by
  match s with
  | [] => simp at h
  | [_] => simp at h
  | [_, _] => simp at h
  | _ :: _ :: m :: _ =>
    obtain rfl : m = n := by simpa using h
    rfl

theorem Frame.bytes_getElem?_two (F : Frame) : F.bytes[2]? = some (lenByte F.data) := rfl

theorem codecBinary_bytes {F : Frame} (hd : F.data.length ≤ 255) : codecBinary F.bytes = .completeFrame := by
  rw [codecBinary_of_getElem?_two F.bytes_getElem?_two, lenByte_toNat hd, F.bytes_length]
  exact if_neg (Nat.lt_irrefl _)

/-- No early completion (R123). -/
theorem codecBinary_take_bytes {F : Frame} (hd : F.data.length ≤ 255) {k : Nat} (hk : k < F.bytes.length) :
    codecBinary (F.bytes.take k) = .processing := by
  have hlen : (F.bytes.take k).length = k := List.length_take_of_le hk.le
  by_cases h3 : k < 3
  · exact codecBinary_of_length_lt_three (hlen.trans_lt h3)
  · have htwo : (F.bytes.take k)[2]? = some (lenByte F.data) :=
      (List.getElem?_take_of_lt (by omega)).trans F.bytes_getElem?_two
    rw [codecBinary_of_getElem?_two htwo, lenByte_toNat hd, hlen, if_pos (F.bytes_length ▸ hk)]

/-- Settles O9: before the length byte, and then by the length it declares. -/
theorem binaryCodecState : Obligations.BinaryCodecState := by
  refine fun s => ⟨codecBinary_of_length_lt_three, fun n hn hshort => ?_, fun n hn hlong => ?_⟩
  · rw [codecBinary_of_getElem?_two hn, if_pos hshort]
  · rw [codecBinary_of_getElem?_two hn, if_neg (Nat.not_lt.mpr hlong)]

/-- Settles O10. -/
theorem frameCompletesAtItsLastByte : Obligations.FrameCompletesAtItsLastByte :=
  fun _ hd => ⟨codecBinary_bytes hd, fun _ => codecBinary_take_bytes hd⟩

/-! ### ASCII mode (R122) -/

theorem codecAscii_eq_processing (s : List Byte) :
    codecAscii s = .processing ↔ ¬ ∃ content, s = lineBytes content := by
  rw [← codecAscii_eq_complete]
  unfold codecAscii
  split <;> simp

/-- Settles O11: the sequences that end with CR LF are the lines. -/
theorem asciiCodecState : Obligations.AsciiCodecState :=
  fun s => ⟨(codecAscii_eq_complete s).mpr, (codecAscii_eq_processing s).mpr⟩

end Sys2Proof.Machine
end

section
/-! SUPPORT. The engine of one channel (40_byte_queue_framer R110-R127): which operation word it takes, what
the step of a taken and of a refused word is, pushes into RXQ, and the Adapter's return. -/

namespace Sys2Proof.Machine

/-! ### Which operation may be taken (R112) -/

namespace Inst

variable {t : Inst}

theorem enabled_eq_false_iff :
    t.enabled = false ↔ ¬ (t.started = true ∧ t.phase = .recv ∧ t.faults = Faults.empty) := by
  rw [← t.enabled_iff, Bool.not_eq_true]

theorem selectOp_of_not_enabled (h : t.enabled = false) (w : BitVec 10) : t.selectOp w = none := by
  simp [selectOp, h]

/-- OP_BYTE pops its data byte, whatever the word's data field (R80). -/
theorem selectOp_byte_cons (h : t.enabled = true) {b : Byte} {q : List Byte} (hq : t.rxq = b :: q) (d : Byte) :
    t.selectOp (opWord 0 d) = some (opWord 0 b, { t with rxq := q }) := by
  simp [selectOp, h, opKind_opWord, hq]

theorem selectOp_byte_nil (h : t.enabled = true) (hq : t.rxq = []) (d : Byte) :
    t.selectOp (opWord 0 d) = none := by
  simp [selectOp, h, opKind_opWord, hq]

theorem selectOp_timeout (h : t.enabled = true) (d : Byte) :
    t.selectOp (opWord 1 d) = if t.rxq = [] then some (opWord 1 d, t) else none := by
  simp [selectOp, h, opKind_opWord]

theorem selectOp_clear (h : t.enabled = true) (d : Byte) :
    t.selectOp (opWord 2 d) = if 0 < t.clearReqs then some (opWord 2 d, t) else none := by
  simp [selectOp, h, opKind_opWord]

theorem selectOp_reserved (h : t.enabled = true) (d : Byte) :
    t.selectOp (opWord 3 d) = some (opWord 3 d, t) := by
  simp [selectOp, h, opKind_opWord]

end Inst

/-- Settles O39: one equation of `selectOp` for each kind, the gate open. -/
theorem operationsEnabledExactly : Obligations.OperationsEnabledExactly := by
  refine fun t d => ⟨fun hgate => Inst.selectOp_of_not_enabled (Inst.enabled_eq_false_iff.mpr hgate),
    fun hgate => ?_⟩
  have he : t.enabled = true := t.enabled_iff.mpr hgate
  refine ⟨fun b q hq => Inst.selectOp_byte_cons he hq d, fun hq => Inst.selectOp_byte_nil he hq d,
    fun hq => ?_, fun hq => ?_, fun hc => ?_, fun hc => ?_, Inst.selectOp_reserved he d⟩
  · exact (Inst.selectOp_timeout he d).trans (if_pos hq)
  · exact (Inst.selectOp_timeout he d).trans (if_neg hq)
  · exact (Inst.selectOp_clear he d).trans (if_pos hc)
  · exact (Inst.selectOp_clear he d).trans (if_neg hc.not_gt)

/-! ### The step of an offered operation word -/

/-- A port event that leaves its channel as it was changes nothing else either. -/
theorem step_port_of_react_eq {s : State} {c : Chan} {e : PortEvent} {rest : List Event}
    (hn : s.NextEvent (.port c e) rest) (h : (s.inst c).react s.cfg s.sysAsleep e = s.inst c) :
    step s = .next (s.during c rest) := by
  rw [step_port hn, h, ← s.during_act c rest, State.setAct_act]

/-- Settles O37: the step is its event, and the event runs the word that the engine takes. -/
theorem stepRunsTheDecodedOperation : Obligations.StepRunsTheDecodedOperation := by
  intro s c w w' u rest hn hsel
  have hrun : step s = runPort (.op w) (s.during c rest) := step_of_event hn
  rw [hrun, runPort, State.during_act, hsel]

/-- Settles O40: a closed gate takes no word. -/
theorem disabledEngineConsumesNothing : Obligations.DisabledEngineConsumesNothing := by
  intro s c w rest hn hclosed
  have hgate : (s.inst c).enabled = false := by
    rw [Inst.enabled_eq_false_iff]
    rintro ⟨hstarted, hphase, hfaults⟩
    rcases hclosed with h | h | h
    · rw [hstarted] at h; cases h
    · exact h hphase
    · exact h hfaults
  exact step_port_of_react_eq hn (Inst.takeOp_of_selectOp_none (Inst.selectOp_of_not_enabled hgate w) _ _)

/-! ### Pushes into RXQ (R110) -/

namespace Inst

variable {cfg : Config} {b : Byte} {t : Inst}

theorem rxPush_of_room (hroom : t.rxq.length < cfg.qDepth) (hheld : t.held = []) :
    t.rxPush cfg b = { t with rxq := t.rxq ++ [b] } := by
  rcases t.rxPush_cases cfg b with ⟨-, h⟩ | ⟨-, hfull, -⟩ | ⟨-, hfull | hwait, -⟩
  · exact h
  · exact absurd hroom hfull.not_gt
  · exact absurd hroom hfull.not_gt
  · exact absurd hheld hwait

theorem rxPush_of_full_dropNew (hfull : cfg.qDepth ≤ t.rxq.length) (hp : cfg.rxqFull = .dropNew) :
    t.rxPush cfg b = t := by
  rcases t.rxPush_cases cfg b with ⟨hroom, -⟩ | ⟨-, -, h⟩ | ⟨hp', -, -⟩
  · exact absurd hroom hfull.not_gt
  · exact h
  · rw [hp] at hp'; cases hp'

theorem rxPush_of_full_blockProducer (hfull : cfg.qDepth ≤ t.rxq.length) (hp : cfg.rxqFull = .blockProducer) :
    t.rxPush cfg b = { t with held := t.held ++ [b] } := by
  rcases t.rxPush_cases cfg b with ⟨hroom, -⟩ | ⟨hp', -, -⟩ | ⟨-, -, h⟩
  · exact absurd hroom hfull.not_gt
  · rw [hp] at hp'; cases hp'
  · exact h

theorem rxResume_of_room {more : List Byte} (hheld : t.held = b :: more) (hroom : t.rxq.length < cfg.qDepth) :
    t.rxResume cfg = { t with rxq := t.rxq ++ [b], held := more } := by
  simp only [rxResume, hheld, if_pos hroom]

theorem rxResume_of_full (hfull : cfg.qDepth ≤ t.rxq.length) : t.rxResume cfg = t := by
  rcases t.rxResume_cases cfg with ⟨-, h⟩ | ⟨_, _, -, hroom, -⟩
  · exact h
  · exact absurd hroom hfull.not_gt

end Inst

/-- Settles O43: a push and its completion, each by whether RXQ has room. -/
theorem pushJoinsTheQueue : Obligations.PushJoinsTheQueue := by
  intro s c b more rest t now
  constructor
  · intro hn hheld
    refine ⟨fun hroom => ?_, fun hfull hp => ?_, fun hfull hp => ?_⟩
    · rw [step_port hn, Inst.react, Inst.rxPush_of_room hroom hheld]
    · exact step_port_of_react_eq hn (Inst.rxPush_of_full_dropNew hfull hp)
    · rw [step_port hn, Inst.react, Inst.rxPush_of_full_blockProducer hfull hp]
      simp only [t, now, hheld, List.nil_append]
  · intro hn hheld
    refine ⟨fun hroom => ?_, fun hfull => ?_⟩
    · rw [step_port hn, Inst.react, Inst.rxResume_of_room hheld hroom]
    · exact step_port_of_react_eq hn (Inst.rxResume_of_full hfull)

/-! ### The Adapter's return (R127) -/

namespace Inst

variable {r : List Byte} {t : Inst}

theorem asciiReturn_of_oversize (h : rspMax < r.length) : t.asciiReturn r = t.raise .asciiOversize := if_pos h

theorem asciiReturn_nil : t.asciiReturn [] = { t with phase := .recv } := rfl

theorem asciiReturn_of_fits (hne : r ≠ []) (h : r.length ≤ rspMax) :
    t.asciiReturn r = { t with rsp := r, rspPos := 0, phase := .txDrain } := by
  rw [asciiReturn, if_neg h.not_gt, if_neg hne]
  rfl

end Inst

/-- The step of a return that the channel waits for. -/
theorem step_asciiRsp {s : State} {c : Chan} {call : Nat} {r : List Byte} {rest : List Event}
    (hn : s.NextEvent (.port c (.asciiRsp call r)) rest) (haw : (s.inst c).awaitsAscii call = true) :
    step s = .next ((s.during c rest).setAct ((s.inst c).asciiReturn r)) := by
  rw [step_port hn, Inst.react, if_pos haw]

/-- Settles O33: an awaited return by its length; any other changes nothing. -/
theorem adapterReturnStep : Obligations.AdapterReturnStep := by
  intro s c call r rest hn t now
  rw [← t.awaitsAscii_iff call]
  refine ⟨fun haw => ⟨fun hlong => ?_, fun hnil => ?_, fun hne hfits => ?_⟩, fun haw => ?_⟩
  · rw [step_asciiRsp hn haw, Inst.asciiReturn_of_oversize hlong]
    rfl
  · rw [step_asciiRsp hn haw, hnil, Inst.asciiReturn_nil]
  · rw [step_asciiRsp hn haw, Inst.asciiReturn_of_fits hne hfits]
  · exact step_port_of_react_eq hn (if_neg haw)

end Sys2Proof.Machine
end

section
/-! SUPPORT. The engine operations, the line and the frame as instructions (40_byte_queue_framer R113-R126,
42_dispatcher R160, R179-R181), and the frame in RXQ that OP_BYTEs bring to the dispatch contract. -/

namespace Sys2Proof.Machine

/-! ### The operations that evaluate nothing -/

/-- Settles O13. -/
theorem timeoutClearsAndReportsAsleep : Obligations.TimeoutClearsAndReportsAsleep := fun _ => rfl

/-- Settles O14. -/
theorem clearDropsTheFrame : Obligations.ClearDropsTheFrame := fun _ => rfl

/-- Settles O15. -/
theorem reservedRaisesIllegalOp : Obligations.ReservedRaisesIllegalOp := fun _ => rfl

theorem Inst.opByte_of_full {cfg : Config} {t : Inst} (h : t.buf.length = cfg.bufCap) (asleep : Bool) (b : Byte) :
    t.opByte cfg asleep b = (t.report .alive).doneError := if_pos h

theorem Inst.opByte_of_room {cfg : Config} {t : Inst} (h : t.buf.length ≠ cfg.bufCap) (asleep : Bool) (b : Byte) :
    t.opByte cfg asleep b = ((t.report .alive).accumulate b).evaluate cfg asleep := if_neg h

theorem exec_opByte (b : Byte) (s : State) :
    exec (.opByte b) s = .next (s.setAct (s.act.opByte s.cfg s.sysAsleep b)) := rfl

/-- Settles O16: the overflow branch of OP_BYTE. -/
theorem byteIntoFullBufOverflows : Obligations.ByteIntoFullBufOverflows := by
  intro s b hfull
  rw [exec_opByte, Inst.opByte_of_full hfull]
  rfl

/-! ### Lines and frames at the dispatch contract -/

theorem State.present_of_fits {bytes : List Byte} {s : State} (h : bytes.length ≤ s.cfg.bufCap) :
    s.present bytes = .next (s.setAct (Inst.evaluate s.cfg s.sysAsleep { s.act with buf := bytes })) := if_pos h

/-- An evaluation, awake and in ASCII mode, of a complete line (R126). -/
theorem Inst.evaluate_of_line {t : Inst} (hascii : t.asciiMode = true) {content : List Byte}
    (hbuf : t.buf = lineBytes content) (cfg : Config) : t.evaluate cfg false = t.callAscii := by
  have hline : codecAscii t.buf = .completeFrame := (codecAscii_eq_complete _).mpr ⟨content, hbuf⟩
  simp [Inst.evaluate, hascii, hline]

/-- Settles O28: BUF holds the line, and the contract's ASCII branch hands it over. -/
theorem lineGoesToTheAdapter : Obligations.LineGoesToTheAdapter := by
  intro s content hawake hascii hfits
  have hrun : exec (.asciiLine content) s = s.present (lineBytes content) := rfl
  rw [hrun, State.present_of_fits (by simpa [lineBytes] using hfits), hawake,
    Inst.evaluate_of_line (t := { s.act with buf := lineBytes content }) hascii rfl]
  rfl

/-- The row of a frame, whichever of the three it is, presents the frame (R179-R181). -/
theorem exec_instrOfFrame (F : Frame) (s : State) : exec (instrOfFrame F) s = s.presentFrame F := by
  obtain ⟨a, f, d, c⟩ := F
  by_cases h10 : f = 0x10
  · subst h10; rfl
  · by_cases hFF : f = 0xFF
    · subst hFF; rfl
    · rw [instrOfFrame_funcTable a h10 hFF]; rfl

/-- A frame that stands in BUF already runs as its evaluation. -/
theorem exec_instrOfFrame_of_buf {F : Frame} {s : State} (hd : F.data.length ≤ 255)
    (hcap : F.bytes.length ≤ s.cfg.bufCap) (hbuf : s.act.buf = F.bytes) :
    exec (instrOfFrame F) s = .next (s.setAct (s.act.evaluate s.cfg s.sysAsleep)) := by
  rw [exec_instrOfFrame, State.presentFrame, if_pos hd, State.present_of_fits hcap, ← hbuf]

/-- An append in binary mode (R114, R116), as the fields it writes. -/
theorem Inst.report_accumulate_of_binary {t : Inst} (hbin : t.asciiMode = false) (b : Byte) :
    (t.report .alive).accumulate b = { t with
      buf := t.buf ++ [b], frameState := codecBinary (t.buf ++ [b]), live := t.live ++ [.alive] } := by
  simp [Inst.accumulate, Inst.report, codecState, hbin]

/-- Settles O19: OP_BYTE appends and evaluates, and the frame's row evaluates what is then in BUF. -/
theorem byteCompletingFrameRunsItsFunction : Obligations.ByteCompletingFrameRunsItsFunction := by
  intro s b i hroom hbin hdec
  obtain ⟨F, hF, hd, rfl⟩ := (decode_request_iff _ _).mp hdec
  have hcap : F.bytes.length ≤ s.cfg.bufCap := by
    rw [← hF, List.length_append, List.length_singleton]
    exact hroom
  rw [exec_opByte, Inst.opByte_of_room hroom.ne, Inst.report_accumulate_of_binary hbin, hF, codecBinary_bytes hd,
    exec_instrOfFrame_of_buf hd (by simpa using hcap) (by rw [State.act_setAct])]
  simp

/-! ### The frame in RXQ -/

/-- An evaluation, awake and in binary mode, of an unfinished frame at an accepted address (R164). -/
theorem Inst.evaluate_of_unfinished {cfg : Config} {t : Inst} (hbin : t.asciiMode = false) {a : Byte}
    {rest : List Byte} (hbuf : t.buf = a :: rest) (ha : accepts cfg a = true)
    (hcodec : codecBinary t.buf = .processing) : t.evaluate cfg false = t.processing := by
  have hparse : parseFrame t.buf = none := (parseFrame_none_iff _).mpr hcodec
  have hbinary : t.evaluateBinary cfg = t.processing := by
    rw [hbuf] at hparse
    simp [Inst.evaluateBinary, hbuf, ha, hparse]
  simp [Inst.evaluate, hbin, hbinary]

/-- The events that bring the next `n` bytes: an OP_BYTE for each. -/
def byteEvents (c : Chan) (n : Nat) (rest : List Event) : List Event :=
  List.replicate n (.port c (.op 0x000)) ++ rest

/-- The channel while a frame comes in: the bytes `got` stand in BUF, the bytes `left` at the head of RXQ,
`more` behind them, and an OP_BYTE is to come for each of `left`. -/
structure State.Receiving (s : State) (c : Chan) (F : Frame) (got left more : List Byte)
    (rest : List Event) : Prop where
  config : s.cfg.wf = true
  awake : s.sysAsleep = false
  enabled : (s.inst c).enabled = true
  binary : (s.inst c).asciiMode = false
  fits : F.data.length ≤ 255
  mine : accepts s.cfg F.addr = true
  frame : got ++ left = F.bytes
  buf : (s.inst c).buf = got
  rxq : (s.inst c).rxq = left ++ more
  inputs : s.inputs = byteEvents c left.length rest

/-- The channel after one byte of an unfinished frame. -/
def Inst.bufferByte (b : Byte) (q : List Byte) (t : Inst) : Inst :=
  { t with rxq := q, buf := t.buf ++ [b], frameState := .processing, dispOutcome := .processing,
           live := t.live ++ [.alive] }

/-- The channel with the whole frame in BUF, its last `n` bytes just received. -/
def Inst.bufferFrame (F : Frame) (n : Nat) (more : List Byte) (t : Inst) : Inst :=
  { t with rxq := more, buf := F.bytes, frameState := .completeFrame, dispOutcome := .processing,
           live := t.live ++ List.replicate n .alive }

/-- OP_BYTE of an unfinished frame at an accepted address keeps the byte (R114, R164). -/
theorem Inst.opByte_of_unfinished {cfg : Config} {t : Inst} (hroom : t.buf.length ≠ cfg.bufCap)
    (hbin : t.asciiMode = false) {a b : Byte} {tail : List Byte} (hbuf : t.buf ++ [b] = a :: tail)
    (ha : accepts cfg a = true) (hcodec : codecBinary (t.buf ++ [b]) = .processing) :
    t.opByte cfg false b = t.bufferByte b t.rxq := by
  have heval := Inst.evaluate_of_unfinished (t := (t.report .alive).accumulate b) hbin hbuf ha hcodec
  rw [Inst.opByte_of_room hroom, heval, Inst.report_accumulate_of_binary hbin, hcodec]
  rfl

theorem Inst.bufferFrame_bufferByte (F : Frame) (n : Nat) (more : List Byte) (b : Byte) (q : List Byte)
    (t : Inst) : (t.bufferByte b q).bufferFrame F n more = t.bufferFrame F (n + 1) more := by
  simp [Inst.bufferByte, Inst.bufferFrame, List.replicate_succ]

theorem State.inst_during_setAct (s : State) (c : Chan) (r : List Event) (t : Inst) :
    ((s.during c r).setAct t).inst c = t := State.inst_setAct_active _ _

/-- Of two events at the ports of one channel the later one says what is still to come and what the channel
then is. -/
theorem State.setAct_during_setAct (s : State) (c : Chan) (t u : Inst) (r rest : List Event) :
    (((s.during c r).setAct t).during c rest).setAct u = (s.during c rest).setAct u := by
  cases c <;> rfl

/-- A run of one step is the step, whatever it answers. -/
theorem run_one (s : State) : core.run 1 s = step s := by
  have hstep : core.step s = step s := rfl
  simp only [Host.Core.run, hstep]
  cases step s <;> rfl

namespace State.Receiving

variable {s : State} {c : Chan} {F : Frame} {got left more : List Byte} {b : Byte} {rest : List Event}

/-- BUF has room for every byte of the frame (R8). -/
theorem room (h : s.Receiving c F got (b :: left) more rest) : (s.inst c).buf.length < s.cfg.bufCap := by
  obtain ⟨-, -, hcap, -⟩ := (Config.wf_iff _).mp h.config
  have hlen := congrArg List.length h.frame
  have hfits := h.fits
  rw [h.buf]
  simp only [List.length_append, List.length_cons, Frame.bytes_length] at hlen
  omega

theorem nextEvent (h : s.Receiving c F got (b :: left) more rest) :
    s.NextEvent (.port c (.op 0x000)) (byteEvents c left.length rest) :=
  ⟨h.config, h.inputs⟩

/-- The engine takes the next OP_BYTE, with the next byte of the frame (R112). -/
theorem step_eq (h : s.Receiving c F got (b :: left) more rest) :
    step s = exec (.opByte b) ((s.during c (byteEvents c left.length rest)).setAct
      { s.inst c with rxq := left ++ more }) := by
  have hsel : (s.inst c).selectOp 0x000 = some (opWord 0 b, { s.inst c with rxq := left ++ more }) :=
    Inst.selectOp_byte_cons h.enabled h.rxq 0x00
  rw [stepRunsTheDecodedOperation s c _ _ _ _ h.nextEvent hsel, decodeOp_opWord]

/-- Short of its last byte the frame begins with the address and is Processing (R123, R164). -/
theorem unfinished {b' : Byte} (h : s.Receiving c F got (b :: b' :: left) more rest) :
    (∃ tail, got ++ [b] = F.addr :: tail) ∧ codecBinary (got ++ [b]) = .processing := by
  have htake : got ++ [b] = F.bytes.take (got.length + 1) := by
    rw [← h.frame, List.take_length_add_append]
    rfl
  have hlt : got.length + 1 < F.bytes.length := by
    rw [← h.frame, List.length_append, List.length_cons, List.length_cons]
    omega
  rw [htake]
  exact ⟨⟨_, rfl⟩, codecBinary_take_bytes h.fits hlt⟩

/-- The step of any byte but the last: it is kept, and the frame goes on coming in. -/
theorem step_more {b' : Byte} (h : s.Receiving c F got (b :: b' :: left) more rest) :
    let s' := (s.during c (byteEvents c (b' :: left).length rest)).setAct
      ((s.inst c).bufferByte b (b' :: left ++ more))
    step s = .next s' ∧ s'.Receiving c F (got ++ [b]) (b' :: left) more rest := by
  obtain ⟨⟨tail, htail⟩, hcodec⟩ := h.unfinished
  rw [← h.buf] at htail hcodec
  constructor
  · have hbyte := Inst.opByte_of_unfinished (t := { s.inst c with rxq := b' :: left ++ more })
      h.room.ne h.binary htail h.mine hcodec
    rw [h.step_eq, exec_opByte]
    simp only [State.act_setAct, State.setAct_cfg, State.setAct_sysAsleep, State.during_cfg,
      State.during_sysAsleep, State.setAct_setAct, h.awake, hbyte]
    rfl
  · constructor
    case frame => rw [← h.frame, List.append_assoc]; rfl
    case buf => rw [State.inst_during_setAct, ← h.buf]; rfl
    case enabled => rw [State.inst_during_setAct]; exact h.enabled
    case binary => rw [State.inst_during_setAct]; exact h.binary
    case rxq => rw [State.inst_during_setAct]; rfl
    case inputs => rw [State.setAct_inputs]; rfl
    case config => simpa using h.config
    case awake => simpa using h.awake
    case fits => exact h.fits
    case mine => simpa using h.mine

/-- The step of the last byte runs the frame's row (R160). -/
theorem step_last (h : s.Receiving c F got [b] more rest) (hproc : (s.inst c).dispOutcome = .processing) :
    step s = exec (instrOfFrame F) ((s.during c rest).setAct ((s.inst c).bufferFrame F 1 more)) := by
  have hframe : (s.inst c).buf ++ [b] = F.bytes := h.buf ▸ h.frame
  have hrun := byteCompletingFrameRunsItsFunction
    ((s.during c rest).setAct { s.inst c with rxq := more }) b (instrOfFrame F)
  simp only [State.act_setAct, State.setAct_cfg, State.during_cfg, State.setAct_setAct, hframe] at hrun
  rw [h.step_eq]
  refine (hrun h.room h.binary (decode_frame_bytes h.fits)).trans ?_
  rw [Inst.bufferFrame, ← hproc]
  rfl

/-- As many steps as there are bytes left run the frame's row; DISP_OUTCOME is PROCESSING by then, unless
only the last byte is left. -/
theorem run (h : s.Receiving c F got (b :: left) more rest)
    (hproc : left ≠ [] ∨ (s.inst c).dispOutcome = .processing) :
    core.run (left.length + 1) s = exec (instrOfFrame F)
      ((s.during c rest).setAct ((s.inst c).bufferFrame F (left.length + 1) more)) := by
  induction left generalizing s got b with
  | nil => exact (run_one s).trans (h.step_last (hproc.resolve_left fun hne => hne rfl))
  | cons b' left ih =>
    obtain ⟨hstep, hnext⟩ := h.step_more
    rw [List.length_cons, run_succ hstep, ih hnext (.inr (by rw [State.inst_during_setAct]; rfl)),
      State.inst_during_setAct, State.setAct_during_setAct, Inst.bufferFrame_bufferByte]

end State.Receiving

/-- Settles O36: the frame comes in byte by byte, the last OP_BYTE runs it. -/
theorem queuedFrameIsReassembledAndRun : Obligations.QueuedFrameIsReassembledAndRun := by
  intro s c F i more rest hwf hawake hen hbin hbuf hrxq hfits hmine hdec hinputs
  obtain rfl : instrOfFrame F = i := by simpa [decode_frame_bytes hfits] using hdec
  have hrec : s.Receiving c F [] F.bytes more rest :=
    ⟨hwf, hawake, hen, hbin, hfits, hmine, rfl, hbuf, hrxq, hinputs⟩
  exact hrec.run (.inl (by simp))

end Sys2Proof.Machine
end

section
/-! SUPPORT. The CRC-8 over GF(2) (41_crc8 R140-R145): every stage of the computation is additive over XOR
and, where the polynomial is odd, injective; what a frame with a wrong CRC is answered. -/

namespace Sys2Proof.Machine

/-! ### Bit reversal -/

/-- Bit `i` of the reversed byte is bit `7 - i` of the byte. -/
theorem reverse8_getElem (b : Byte) {i : Nat} (hi : i < 8) : (reverse8 b)[i] = b[7 - i] := by
  interval_cases i <;> simp [reverse8]

@[simp] theorem reverse8_reverse8 (b : Byte) : reverse8 (reverse8 b) = b := by
  ext i hi
  rw [reverse8_getElem _ hi, reverse8_getElem _ (by omega)]
  congr 1
  omega

theorem reverse8_injective : Function.Injective reverse8 :=
  Function.LeftInverse.injective reverse8_reverse8

theorem reverse8_xor (a b : Byte) : reverse8 (a ^^^ b) = reverse8 a ^^^ reverse8 b := by
  ext i hi
  simp only [reverse8_getElem _ hi, BitVec.getElem_xor]

/-- The reflection that CRC_REFIN and CRC_REFOUT switch on. -/
def reflect (on : Bool) (b : Byte) : Byte := if on then reverse8 b else b

theorem crcByte_eq (p : CrcParams) (c b : Byte) :
    crcByte p c b = crcShifts p.poly 8 (c ^^^ reflect p.refIn b) := rfl

theorem crcFinish_eq (p : CrcParams) (c : Byte) : crcFinish p c = reflect p.refOut c ^^^ p.xorOut := rfl

theorem reflect_xor (on : Bool) (a b : Byte) : reflect on (a ^^^ b) = reflect on a ^^^ reflect on b := by
  cases on with
  | false => rfl
  | true => exact reverse8_xor a b

theorem reflect_injective (on : Bool) : Function.Injective (reflect on) := by
  cases on with
  | false => exact Function.injective_id
  | true => exact reverse8_injective

/-! ### Additivity over XOR -/

/-- A shift of the register is a shift of the byte, then the feedback of the bit shifted out. -/
theorem crcShift_eq (poly c : Byte) : crcShift poly c = c <<< 1 ^^^ (if c.msb then poly else 0) := by
  cases h : c.msb <;> simp [crcShift, h]

theorem crcShift_xor (poly c d : Byte) : crcShift poly (c ^^^ d) = crcShift poly c ^^^ crcShift poly d := by
  have hfeedback : (if (c ^^^ d).msb then poly else 0) =
      (if c.msb then poly else 0) ^^^ (if d.msb then poly else 0) := by
    cases hc : c.msb <;> cases hd : d.msb <;> simp [hc, hd]
  rw [crcShift_eq, crcShift_eq, crcShift_eq, hfeedback, BitVec.shiftLeft_xor_distrib]
  ac_rfl

theorem crcShifts_xor (poly : Byte) (n : Nat) (c d : Byte) :
    crcShifts poly n (c ^^^ d) = crcShifts poly n c ^^^ crcShifts poly n d := by
  induction n generalizing c d with
  | zero => rfl
  | succ n ih => rw [crcShifts, crcShift_xor, ih, crcShifts, crcShifts]

theorem crcByte_xor (p : CrcParams) (c d b e : Byte) :
    crcByte p (c ^^^ d) (b ^^^ e) = crcByte p c b ^^^ crcByte p d e := by
  rw [crcByte_eq, crcByte_eq, crcByte_eq, reflect_xor, ← crcShifts_xor]
  ac_rfl

/-- The end of the computation is affine: it XORs CRC_XOROUT in, so an odd number of registers add up. -/
theorem crcFinish_xor_xor (p : CrcParams) (c d e : Byte) :
    crcFinish p (c ^^^ d ^^^ e) = crcFinish p c ^^^ crcFinish p d ^^^ crcFinish p e := by
  have hout : p.xorOut ^^^ p.xorOut ^^^ p.xorOut = p.xorOut := by simp
  rw [crcFinish_eq, reflect_xor, reflect_xor, ← hout]
  simp only [crcFinish_eq]
  ac_rfl

/-- Three registers, run over two sequences of one length and over as many zeros, add up. -/
theorem foldl_crcByte_zipWith_xor (p : CrcParams) {s t : List Byte} (h : s.length = t.length) (c d e : Byte) :
    (List.zipWith (· ^^^ ·) s t).foldl (crcByte p) (c ^^^ d ^^^ e) =
      s.foldl (crcByte p) c ^^^ t.foldl (crcByte p) d ^^^ (s.map fun _ => 0x00).foldl (crcByte p) e := by
  induction s generalizing t c d e with
  | nil => obtain rfl := List.length_eq_zero_iff.mp h.symm; rfl
  | cons a s ih =>
    cases t with
    | nil => cases h
    | cons b t =>
      have hbyte : crcByte p (c ^^^ d ^^^ e) (a ^^^ b) =
          crcByte p c a ^^^ crcByte p d b ^^^ crcByte p e 0x00 := by
        rw [← crcByte_xor, ← crcByte_xor]
        exact congrArg _ BitVec.xor_zero.symm
      simp only [List.zipWith_cons_cons, List.map_cons, List.foldl_cons, hbyte]
      exact ih (Nat.succ.inj h) _ _ _

/-- Settles O7: the register adds up from `CRC_INIT = CRC_INIT ^ CRC_INIT ^ CRC_INIT`, and so does its end. -/
theorem crcIsLinear : Obligations.CrcIsLinear := by
  intro p s t h
  have hreg := foldl_crcByte_zipWith_xor p h p.init p.init p.init
  rw [BitVec.xor_self, BitVec.zero_xor] at hreg
  rw [crc8, hreg, crcFinish_xor_xor]
  rfl

/-! ### The zero residue -/

/-- Without reflection a byte equal to the register clears it. -/
theorem crcByte_self {p : CrcParams} (h : p.refIn = false) (c : Byte) : crcByte p c c = 0 := by
  rw [crcByte_eq, h, reflect, if_neg Bool.false_ne_true, BitVec.xor_self]
  exact crcShifts_zero _ _

/-- Without reflection and final XOR the CRC is the register. -/
theorem crc8_eq_crcRegister {p : CrcParams} (hrefl : p.refOut = false) (hxor : p.xorOut = 0x00)
    (s : List Byte) : crc8 p s = crcRegister p s := by
  simp [crc8_eq, crcFinish, hrefl, hxor]

/-- Settles O6: the CRC of a sequence, appended to it, meets its own value in the register. -/
theorem crcOfEmptyAndZeroResidue : Obligations.CrcOfEmptyAndZeroResidue := by
  refine fun p => ⟨rfl, fun hin hout hxor s => ?_⟩
  rw [crc8_eq_crcRegister hout hxor, crc8_eq_crcRegister hout hxor, crcRegister_snoc, crcByte_self hin]

/-! ### Dependence on every byte -/

/-- The register's feedback sets bit 0 exactly where a 1 was shifted out, so an odd polynomial loses
nothing. -/
theorem crcShift_eq_zero {poly c : Byte} (hodd : poly.getLsbD 0 = true) (h : crcShift poly c = 0) : c = 0 := by
  have hmsb : c.msb = false := by
    by_contra hc
    have hbit : (crcShift poly c).getLsbD 0 = true := by
      rw [crcShift, if_pos (Bool.of_not_eq_false hc), BitVec.getLsbD_xor, hodd]
      simp
    simp [h] at hbit
  have hsmall : 2 * c.toNat < 2 ^ 8 := BitVec.msb_eq_false_iff_two_mul_lt.mp hmsb
  have hshift : c <<< 1 = 0 := by simpa [crcShift, hmsb] using h
  bv_omega

theorem crcShift_injective {poly : Byte} (hodd : poly.getLsbD 0 = true) :
    Function.Injective (crcShift poly) := by
  intro c d h
  refine BitVec.xor_eq_zero_iff.mp (crcShift_eq_zero hodd ?_)
  rw [crcShift_xor, h, BitVec.xor_self]
  rfl

theorem crcShifts_injective {poly : Byte} (hodd : poly.getLsbD 0 = true) (n : Nat) :
    Function.Injective (crcShifts poly n) := by
  induction n with
  | zero => exact Function.injective_id
  | succ n ih => exact ih.comp (crcShift_injective hodd)

theorem crcByte_left_injective {p : CrcParams} (hodd : p.poly.getLsbD 0 = true) (b : Byte) :
    Function.Injective (crcByte p · b) :=
  fun _ _ h => (BitVec.xor_left_inj _).mp (crcShifts_injective hodd 8 h)

theorem crcByte_right_injective {p : CrcParams} (hodd : p.poly.getLsbD 0 = true) (c : Byte) :
    Function.Injective (crcByte p c) :=
  fun _ _ h => reflect_injective _ ((BitVec.xor_right_inj _).mp (crcShifts_injective hodd 8 h))

theorem foldl_crcByte_injective {p : CrcParams} (hodd : p.poly.getLsbD 0 = true) (t : List Byte) :
    Function.Injective (t.foldl (crcByte p)) := by
  induction t with
  | nil => exact Function.injective_id
  | cons b t ih => exact ih.comp (crcByte_left_injective hodd b)

theorem crcFinish_injective (p : CrcParams) : Function.Injective (crcFinish p) :=
  fun _ _ h => reflect_injective _ ((BitVec.xor_left_inj _).mp h)

/-- Settles O8: two different bytes part the register, and nothing after them brings it together. -/
theorem crcDependsOnEveryByte : Obligations.CrcDependsOnEveryByte := by
  intro p s t b c hodd hne heq
  simp only [crc8_eq, crcRegister_append, List.foldl_cons] at heq
  exact hne (crcByte_right_injective hodd _ (foldl_crcByte_injective hodd t (crcFinish_injective p heq)))

/-! ### A frame with a wrong CRC -/

/-- The instruction of a frame presents the frame to the dispatch contract (R160, R179-R181). -/
theorem exec_of_frame? {i : Instr} {F : Frame} (h : i.frame? = some F) (s : State) :
    exec i s = s.presentFrame F := by
  cases i with
  | func10 a d c => cases h; rfl
  | funcSentinel a d c => cases h; rfl
  | funcTable a f d c => cases h; rfl
  | _ => cases h

/-- An evaluation, awake and in binary mode, of a frame at an accepted address: steps 3 to 5 latch the
address (R163, R164, R166). -/
theorem Inst.evaluate_of_frame {cfg : Config} {t : Inst} {F : Frame} (hbin : t.asciiMode = false)
    (hbuf : t.buf = F.bytes) (hmine : accepts cfg F.addr = true) (hd : F.data.length ≤ 255) :
    t.evaluate cfg false = (t.latch F.addr).checkAndRun cfg F := by
  have hparse := parseFrame_bytes F hd
  rw [Frame.bytes_eq] at hparse hbuf
  simp [Inst.evaluate, hbin, Inst.evaluateBinary, hbuf, hmine, hparse]

/-- The instruction of an encodable frame, awake, in binary mode and addressed to this device, comes to
step 5a with the frame in BUF and its address latched. -/
theorem exec_eq_checkAndRun {s : State} {i : Instr} {F : Frame} (hi : i.frame? = some F)
    (hwf : s.cfg.wf = true) (hawake : s.sysAsleep = false) (hbin : s.act.asciiMode = false)
    (hmine : accepts s.cfg F.addr = true) (hd : F.data.length ≤ 255) :
    exec i s = .next (s.setAct (({ s.act with buf := F.bytes }.latch F.addr).checkAndRun s.cfg F)) := by
  obtain ⟨-, -, hcap, -⟩ := (Config.wf_iff _).mp hwf
  have hfits : F.bytes.length ≤ s.cfg.bufCap := by rw [Frame.bytes_length]; omega
  rw [exec_of_frame? hi, State.presentFrame, if_pos hd, State.present_of_fits hfits, hawake,
    Inst.evaluate_of_frame (t := { s.act with buf := F.bytes }) hbin rfl hmine hd]

/-- Step 5a with the check enabled and a wrong CRC (R145). -/
theorem Inst.checkAndRun_of_badCrc {cfg : Config} {t : Inst} {F : Frame} (hen : t.crcCheckEn = true)
    (hbad : F.crc ≠ crc8 cfg.crc F.covered) :
    t.checkAndRun cfg F = t.respondNack cfg F.func cfg.exc.crcError := by
  simp [Inst.checkAndRun, Frame.crcOk, hen, hbad.symm]

/-- Settles O21: the contract reaches the CRC check with the address latched, and ends there. -/
theorem frameWithBadCrcIsNacked : Obligations.FrameWithBadCrcIsNacked := by
  intro s i F hi hwf hawake hbin hmine hd hen hbad
  have hnack := Inst.checkAndRun_of_badCrc (t := Inst.latch F.addr { s.act with buf := F.bytes }) hen hbad
  rw [exec_eq_checkAndRun hi hwf hawake hbin hmine hd, hnack]
  rfl

end Sys2Proof.Machine
end

section
/-! SUPPORT. The dispatch contract on a complete frame (42_dispatcher R160-R181): the scan of the command
table, the permission gate, and what each function code is answered. -/

namespace Sys2Proof.Machine

/-! ### The scan of the command table (R168) -/

/-- Settles O29: the scan from entry 0 on. -/
theorem lookupStopsAtFirstCodeAtLeast : Obligations.LookupStopsAtFirstCodeAtLeast := by
  intro t f i p
  constructor
  · intro hit
    obtain ⟨k, e, rfl, hk, hcode, hperm, hf, hbelow⟩ := lookupFrom_some hit
    rw [Nat.zero_add]
    exact ⟨⟨e, hk, hcode, hperm⟩, hf, hbelow⟩
  · rintro ⟨⟨e, hi, hcode, rfl⟩, hf, hbelow⟩
    simpa [lookup] using lookupFrom_hit 0 hi hcode hf hbelow

/-- A code of no entry misses (R170). -/
theorem lookup_of_forall_code_ne {t : List Entry} {f : Byte} (h : ∀ e ∈ t, e.code ≠ f) : lookup t f = none := by
  refine Option.eq_none_iff_forall_ne_some.mpr fun ⟨i, p⟩ hit => ?_
  obtain ⟨⟨e, hi, hcode, -⟩, -⟩ := (lookupStopsAtFirstCodeAtLeast t f i p).mp hit
  exact h e (List.mem_of_getElem? hi) hcode

/-- The sentinel's own code misses (R169). -/
theorem lookup_sentinel (t : List Entry) : lookup t 0xFF = none := by
  refine Option.eq_none_iff_forall_ne_some.mpr fun ⟨i, p⟩ hit => ?_
  obtain ⟨-, hne, -⟩ := (lookupStopsAtFirstCodeAtLeast t 0xFF i p).mp hit
  exact hne rfl

/-- The codes of a well-formed table ascend over any two entries (R31 (d)). -/
theorem code_lt_of_tableWf {t : List Entry} (hwf : tableWf t = true) {i j : Nat} {e e' : Entry} (hij : i < j)
    (hi : t[i]? = some e) (hj : t[j]? = some e') : e.code < e'.code := by
  obtain ⟨-, -, -, hchain⟩ := (codesWf_iff _).mp hwf
  have hpair : t.Pairwise (·.code < ·.code) := List.pairwise_map.mp (List.isChain_iff_pairwise.mp hchain)
  obtain ⟨hi', rfl⟩ := List.getElem?_eq_some_iff.mp hi
  obtain ⟨hj', rfl⟩ := List.getElem?_eq_some_iff.mp hj
  exact List.pairwise_iff_getElem.mp hpair i j hi' hj' hij

/-- In a well-formed table every code but the sentinel's is hit at its entry. -/
theorem lookup_of_getElem? {t : List Entry} (hwf : tableWf t = true) {k : Nat} {e : Entry}
    (hk : t[k]? = some e) (hf : e.code ≠ 0xFF) : lookup t e.code = some (k, e.perm) :=
  (lookupStopsAtFirstCodeAtLeast t e.code k e.perm).mpr
    ⟨⟨e, hk, rfl, rfl⟩, hf, fun _ _ hj hje => code_lt_of_tableWf hwf hj hje hk⟩

/-! ### The permission gate (R171, R172) -/

/-- Settles O30: the order of the level codes, level by level. -/
theorem permissionMatrix : Obligations.PermissionMatrix := by
  intro session need
  cases session <;> cases need <;> decide

namespace Inst

variable {cfg : Config} {F : Frame} {i : Nat} {p : Perm} {t : Inst}

theorem gate_of_reserved (h : t.sessionPerm = 3) : t.gate cfg F i p = t.raise .badPerm := if_pos h

theorem gate_of_below (hlevel : t.sessionPerm ≠ 3) (h : t.sessionPerm < p.code) :
    t.gate cfg F i p = t.respondNack cfg F.func cfg.exc.noPerm := by
  rw [gate, if_neg hlevel, if_pos h]

theorem gate_of_reaches (hlevel : t.sessionPerm ≠ 3) (h : p.code ≤ t.sessionPerm) :
    t.gate cfg F i p = t.callHandler i F.bytes := by
  rw [gate, if_neg hlevel, if_neg (BitVec.not_lt.mpr h)]

/-! ### Steps 5a to 8 with the CRC right or unchecked -/

/-- Step 5a lets the frame through (R167). -/
theorem not_badCrc (hcrc : t.crcCheckEn = true → F.crc = crc8 cfg.crc F.covered) :
    ¬ (t.crcCheckEn = true ∧ F.crcOk cfg.crc = false) := by
  rintro ⟨hen, hbad⟩
  simp [Frame.crcOk, hcrc hen] at hbad

theorem checkAndRun_of_miss (hcrc : t.crcCheckEn = true → F.crc = crc8 cfg.crc F.covered)
    (hmiss : lookup cfg.cmdTable F.func = none) :
    t.checkAndRun cfg F = t.respondNack cfg F.func cfg.exc.unknownCmd := by
  rcases t.checkAndRun_cases cfg F with ⟨hen, hbad, -⟩ | ⟨-, -, h⟩ | ⟨-, i, p, hit, -⟩
  · exact absurd ⟨hen, hbad⟩ (not_badCrc hcrc)
  · exact h
  · rw [hmiss] at hit; cases hit

theorem checkAndRun_of_hit (hcrc : t.crcCheckEn = true → F.crc = crc8 cfg.crc F.covered)
    (hit : lookup cfg.cmdTable F.func = some (i, p)) : t.checkAndRun cfg F = t.gate cfg F i p := by
  rcases t.checkAndRun_cases cfg F with ⟨hen, hbad, -⟩ | ⟨-, hmiss, -⟩ | ⟨-, i', p', hit', h⟩
  · exact absurd ⟨hen, hbad⟩ (not_badCrc hcrc)
  · rw [hmiss] at hit; cases hit
  · rw [hit] at hit'
    cases hit'
    exact h

end Inst

namespace State

/-- The active channel at step 5a: the frame in BUF, its address latched (R166). -/
def latched (s : State) (F : Frame) : Inst := Inst.latch F.addr { s.act with buf := F.bytes }

namespace Ready

variable {s : State} {i : Instr} {F : Frame} {e : Entry}

/-- A request comes to step 5a. -/
theorem exec_eq (h : s.Ready F) (hi : i.frame? = some F) :
    exec i s = .next (s.setAct ((s.latched F).checkAndRun s.cfg F)) :=
  exec_eq_checkAndRun hi h.config h.awake h.binary h.mine h.fits

/-- A request that the scan misses (R170). -/
theorem exec_of_miss (h : s.Ready F) (hi : i.frame? = some F) (hmiss : lookup s.cfg.cmdTable F.func = none) :
    exec i s = .next (s.nacking F.addr F.func s.cfg.exc.unknownCmd) := by
  rw [h.exec_eq hi, Inst.checkAndRun_of_miss (t := s.latched F) h.crcRight hmiss]
  rfl

/-- A request whose code entry `k` has comes to the gate of that entry (R171). -/
theorem exec_of_getElem? (h : s.Ready F) (hi : i.frame? = some F) {k : Nat}
    (hk : s.cfg.cmdTable[k]? = some e) (hcode : e.code = F.func) (hf : F.func ≠ 0xFF) :
    exec i s = .next (s.setAct ((s.latched F).gate s.cfg F k e.perm)) := by
  obtain ⟨-, htable, -⟩ := (Config.wf_iff _).mp h.config
  have hit := lookup_of_getElem? htable hk (hcode ▸ hf)
  rw [h.exec_eq hi, Inst.checkAndRun_of_hit (t := s.latched F) h.crcRight (hcode ▸ hit)]

/-- A request that the session's level reaches calls the handler of its entry (R173, R175). -/
theorem exec_of_permitted (h : s.Ready F) (hi : i.frame? = some F) {k : Nat}
    (hk : s.cfg.cmdTable[k]? = some e) (hcode : e.code = F.func) (hf : F.func ≠ 0xFF)
    (hlevel : s.act.sessionPerm ≠ 3) (hreach : e.perm.code ≤ s.act.sessionPerm) :
    exec i s = .next (s.calling k F) := by
  rw [h.exec_of_getElem? hi hk hcode hf, Inst.gate_of_reaches (t := s.latched F) hlevel hreach]
  rfl

end Ready

end State

/-! ### The function codes -/

/-- Settles O22: the scan misses. -/
theorem unknownFunctionIsNacked : Obligations.UnknownFunctionIsNacked :=
  fun _ _ _ hi hready hnone => hready.exec_of_miss hi (lookup_of_forall_code_ne hnone)

/-- Settles O23: the scan misses on the sentinel's entry. -/
theorem sentinelCodeIsUnknown : Obligations.SentinelCodeIsUnknown :=
  fun s _ _ _ hready => hready.exec_of_miss rfl (lookup_sentinel s.cfg.cmdTable)

/-- Settles O24: both rows come to the gate of entry `k`, which the level passes. -/
theorem permittedFunctionCallsItsHandler : Obligations.PermittedFunctionCallsItsHandler :=
  fun _ _ _ _ _ _ hk hlevel hreach =>
    ⟨fun hcode hready => hready.exec_of_permitted rfl hk hcode (by simp) hlevel hreach,
      fun _ hcode hf hready => hready.exec_of_permitted rfl hk hcode hf hlevel hreach⟩

/-- Settles O25: the gate is closed. -/
theorem forbiddenFunctionIsNacked : Obligations.ForbiddenFunctionIsNacked := by
  intro s i F e hi hready he hcode hf hlevel hbelow
  obtain ⟨k, hk⟩ := List.mem_iff_getElem?.mp he
  rw [hready.exec_of_getElem? hi hk hcode hf, Inst.gate_of_below (t := s.latched F) hlevel hbelow]
  rfl

/-- Settles O26: the gate faults, with the frame still in BUF and its address latched. -/
theorem reservedSessionLevelFaults : Obligations.ReservedSessionLevelFaults := by
  intro s i F e hi hready he hcode hf hlevel
  obtain ⟨k, hk⟩ := List.mem_iff_getElem?.mp he
  rw [hready.exec_of_getElem? hi hk hcode hf, Inst.gate_of_reserved (t := s.latched F) hlevel]
  rfl

/-! ### Frames that are dropped (R161, R163) -/

theorem accepts_iff (cfg : Config) (a : Byte) :
    accepts cfg a = true ↔ a = cfg.addrPrimary ∨ a = cfg.addrSecondary ∨ a = cfg.addrAscii := by
  simp [accepts, or_assoc]

theorem Inst.evaluate_of_asleep (cfg : Config) (t : Inst) : t.evaluate cfg true = t.doneSilent := rfl

/-- An evaluation, awake and in binary mode, at a foreign address (R163). -/
theorem Inst.evaluate_of_foreign {cfg : Config} {t : Inst} (hbin : t.asciiMode = false) {a : Byte}
    {rest : List Byte} (hbuf : t.buf = a :: rest) (ha : accepts cfg a = false) :
    t.evaluate cfg false = t.doneSilent := by
  simp [Inst.evaluate, hbin, Inst.evaluateBinary, hbuf, ha]

/-- Settles O27: BUF holds the frame, and step 1 or step 3 of the contract drops it. -/
theorem sleepingOrForeignFrameIsDropped : Obligations.SleepingOrForeignFrameIsDropped := by
  intro s i F hi hwf hd hdrop
  obtain ⟨-, -, hcap, -⟩ := (Config.wf_iff _).mp hwf
  have hfits : F.bytes.length ≤ s.cfg.bufCap := by rw [Frame.bytes_length]; omega
  have hsilent : Inst.evaluate s.cfg s.sysAsleep { s.act with buf := F.bytes } =
      Inst.doneSilent { s.act with buf := F.bytes } := by
    cases hsleep : s.sysAsleep with
    | true => exact Inst.evaluate_of_asleep _ _
    | false =>
      obtain ⟨hbin, hforeign⟩ := hdrop.resolve_left (by simp [hsleep])
      have hnot : accepts s.cfg F.addr = false := by
        rw [Bool.eq_false_iff, ne_eq, accepts_iff, not_or, not_or]
        exact hforeign
      exact Inst.evaluate_of_foreign hbin F.bytes_eq hnot
  rw [exec_of_frame? hi, State.presentFrame, if_pos hd, State.present_of_fits hfits, hsilent]
  rfl

end Sys2Proof.Machine
end

section
/-! SUPPORT. OP_BYTE by what the byte leaves in BUF (42_dispatcher R161-R164), and the handler's return
(R176, R177). -/

namespace Sys2Proof.Machine

/-! ### OP_BYTE that runs no function code -/

/-- An append in ASCII mode (R114, R116), as the fields it writes. -/
theorem Inst.report_accumulate_of_ascii {t : Inst} (hascii : t.asciiMode = true) (b : Byte) :
    (t.report .alive).accumulate b = { t with
      buf := t.buf ++ [b], frameState := codecAscii (t.buf ++ [b]), live := t.live ++ [.alive] } := by
  simp [Inst.accumulate, Inst.report, codecState, hascii]

/-- Settles O17: the append, then step 1 of the contract. -/
theorem byteWhileAsleepIsDiscarded : Obligations.ByteWhileAsleepIsDiscarded := by
  intro s b hroom hasleep
  rw [exec_opByte, Inst.opByte_of_room hroom, hasleep, Inst.evaluate_of_asleep]
  rfl

/-- Settles O18: the append, then step 3 or step 4 of the contract. -/
theorem byteOfUnfinishedFrame : Obligations.ByteOfUnfinishedFrame := by
  intro s a b rest hroom hawake hbin hbuf
  rw [← accepts_iff, exec_opByte, hawake]
  refine ⟨fun hforeign => ?_, fun hmine hcodec => ?_⟩
  · have hdrop := Inst.evaluate_of_foreign (t := (s.act.report .alive).accumulate b) hbin hbuf
      (Bool.eq_false_iff.mpr hforeign)
    rw [Inst.opByte_of_room hroom, hdrop, Inst.report_accumulate_of_binary hbin, hbuf]
    rfl
  · rw [Inst.opByte_of_unfinished hroom hbin hbuf hmine (hbuf ▸ hcodec), Inst.bufferByte, hbuf]

/-- An evaluation, awake and in ASCII mode, of an unfinished line (R162). -/
theorem Inst.evaluate_of_partialLine {t : Inst} (hascii : t.asciiMode = true)
    (hbuf : codecAscii t.buf = .processing) (cfg : Config) : t.evaluate cfg false = t.processing := by
  simp only [Inst.evaluate, hascii, hbuf, Bool.false_eq_true, if_false, if_true, reduceCtorEq]

/-- Settles O20: the append, then step 2 of the contract. -/
theorem byteInAsciiMode : Obligations.ByteInAsciiMode := by
  intro s b hroom hawake hascii
  rw [exec_opByte, hawake, Inst.opByte_of_room hroom.ne]
  refine ⟨fun content hline => ?_, fun hpartial => ?_⟩
  · have hcodec : codecAscii (s.act.buf ++ [b]) = .completeFrame := (codecAscii_eq_complete _).mpr ⟨content, hline⟩
    rw [Inst.evaluate_of_line (t := (s.act.report .alive).accumulate b) hascii hline,
      Inst.report_accumulate_of_ascii hascii, hcodec, hline]
    rfl
  · have hcodec : codecAscii (s.act.buf ++ [b]) = .processing := (codecAscii_eq_processing _).mpr hpartial
    rw [Inst.evaluate_of_partialLine (t := (s.act.report .alive).accumulate b) hascii hcodec,
      Inst.report_accumulate_of_ascii hascii, hcodec]
    rfl

/-! ### The handler's return (R176, R177) -/

namespace Inst

variable {cfg : Config} {r : List Byte} {t : Inst}

theorem handlerReturn_of_oversize (h : rspMax < r.length) : t.handlerReturn cfg r = t.raise .rspOversize := if_pos h

theorem handlerReturn_nil : t.handlerReturn cfg [] = { t with dispOutcome := .doneSilent, phase := .recv } := rfl

theorem handlerReturn_of_fits (hne : r ≠ []) (h : r.length ≤ rspMax) :
    t.handlerReturn cfg r = { t with
      rsp := appendCrc cfg.crc r, rspPos := 0, dispOutcome := .doneResponse, phase := .txDrain } := by
  rw [handlerReturn, if_neg h.not_gt, if_neg hne]
  rfl

end Inst

/-- The step of a return that the channel waits for. -/
theorem step_handlerRsp {s : State} {c : Chan} {call : Nat} {r : List Byte} {rest : List Event}
    (hn : s.NextEvent (.port c (.handlerRsp call r)) rest) (haw : (s.inst c).awaitsHandler call = true) :
    step s = .next ((s.during c rest).setAct ((s.inst c).handlerReturn s.cfg r)) := by
  rw [step_port hn, Inst.react, if_pos haw]

/-- Settles O32: an awaited return by its length; any other changes nothing. -/
theorem handlerReturnStep : Obligations.HandlerReturnStep := by
  intro s c call r rest hn t now
  rw [← t.awaitsHandler_iff call]
  refine ⟨fun haw => ⟨fun hlong => ?_, fun hnil => ?_, fun hne hfits => ?_⟩, fun haw => ?_⟩
  · rw [step_handlerRsp hn haw, Inst.handlerReturn_of_oversize hlong]
    rfl
  · rw [step_handlerRsp hn haw, hnil, Inst.handlerReturn_nil]
  · rw [step_handlerRsp hn haw, Inst.handlerReturn_of_fits hne hfits]
    rfl
  · exact step_port_of_react_eq hn (if_neg haw)

/-- Settles O38: the step and the decoded response are both the handler's return of these bytes. -/
theorem stepRunsTheDecodedResponse : Obligations.StepRunsTheDecodedResponse := by
  intro s c call r i rest hn haw hdec
  rw [step_handlerRsp hn haw, exec_of_decodeResponse ((decode_response_iff r i).mp hdec), State.answer,
    State.during_act, State.during_cfg]

end Sys2Proof.Machine
end

section
/-! SUPPORT. BUF in binary mode (42_dispatcher R164): it never holds a complete frame between steps, so a
frame is processed at exactly its length. -/

namespace Sys2Proof.Machine

/-- Settles O49: bytes behind the frame would leave it complete without the last byte. -/
theorem frameIsProcessedAtExactlyItsLength : Obligations.FrameIsProcessedAtExactlyItsLength := by
  intro buf b hshort hfull
  obtain ⟨⟨F, after⟩, hparse⟩ : ∃ p, parseFrame (buf ++ [b]) = some p := by
    rw [← Option.ne_none_iff_exists', ne_eq, parseFrame_none_iff, hfull]
    simp
  obtain ⟨hbytes, hd⟩ := parseFrame_some hparse
  obtain rfl : after = [] := by
    rcases List.eq_nil_or_concat' after with rfl | ⟨init, b', rfl⟩
    · rfl
    · rw [← List.append_assoc] at hbytes
      obtain ⟨rfl, -⟩ := List.append_inj' hbytes rfl
      have hnone := (parseFrame_none_iff _).mpr hshort
      rw [parseFrame_bytes_append F hd] at hnone
      cases hnone
  rw [List.append_nil] at hbytes
  refine ⟨F, lenByte F.data, hbytes.symm, hparse, ?_, ?_⟩
  · rw [hbytes, F.bytes_getElem?_two]
  · rw [hbytes, F.bytes_length, lenByte_toNat hd]

/-! ### What leaves BUF as it was -/

theorem Faults.add_ne_empty (f : Fault) (x : Faults) : x.add f ≠ Faults.empty := by
  cases f <;> simp [Faults.add, Faults.empty]

/-- From `t` to `u` BUF and the mode stay, and no fault goes. -/
structure Inst.KeepsFrame (t u : Inst) : Prop where
  buf : u.buf = t.buf
  asciiMode : u.asciiMode = t.asciiMode
  faults : u.faults = Faults.empty → t.faults = Faults.empty

namespace Inst.KeepsFrame

theorem refl (t : Inst) : t.KeepsFrame t := ⟨rfl, rfl, id⟩

theorem raise (f : Fault) (t : Inst) : t.KeepsFrame (t.raise f) :=
  ⟨rfl, rfl, fun h => absurd h (Faults.add_ne_empty f t.faults)⟩

theorem rxPush (cfg : Config) (b : Byte) (t : Inst) : t.KeepsFrame (t.rxPush cfg b) := by
  rcases t.rxPush_cases cfg b with ⟨-, h⟩ | ⟨-, -, h⟩ | ⟨-, -, h⟩ <;> rw [h] <;> exact ⟨rfl, rfl, id⟩

theorem rxResume (cfg : Config) (t : Inst) : t.KeepsFrame (t.rxResume cfg) := by
  rcases t.rxResume_cases cfg with ⟨-, h⟩ | ⟨b, rest, -, -, h⟩ <;> rw [h] <;> exact ⟨rfl, rfl, id⟩

theorem start (t : Inst) : t.KeepsFrame t.start := by
  rcases t.start_cases with ⟨-, h⟩ | ⟨-, h⟩ <;> rw [h] <;> exact ⟨rfl, rfl, id⟩

theorem cfgWrite (v : Bool) (t : Inst) : t.KeepsFrame (t.cfgWrite v) := by
  rcases t.cfgWrite_cases v with ⟨-, h⟩ | ⟨-, h⟩ <;> rw [h] <;> exact ⟨rfl, rfl, id⟩

theorem handlerReturn (cfg : Config) (r : List Byte) (t : Inst) : t.KeepsFrame (t.handlerReturn cfg r) := by
  rcases t.handlerReturn_cases cfg r with ⟨-, h⟩ | ⟨-, h⟩ | ⟨-, -, h⟩ <;> rw [h]
  · exact raise .rspOversize t
  · exact ⟨rfl, rfl, id⟩
  · exact ⟨rfl, rfl, id⟩

theorem asciiReturn (r : List Byte) (t : Inst) : t.KeepsFrame (t.asciiReturn r) := by
  rcases t.asciiReturn_cases r with ⟨-, h⟩ | ⟨-, h⟩ | ⟨-, -, h⟩ <;> rw [h]
  · exact raise .asciiOversize t
  · exact ⟨rfl, rfl, id⟩
  · exact ⟨rfl, rfl, id⟩

theorem txByte (t : Inst) : t.KeepsFrame t.txByte := by
  rcases t.txByte_cases with ⟨-, h⟩ | ⟨b, -, -, h⟩ | ⟨b, -, -, h⟩ <;> rw [h] <;> exact ⟨rfl, rfl, id⟩

theorem ite {t u : Inst} (h : t.KeepsFrame u) (p : Prop) [Decidable p] : t.KeepsFrame (if p then u else t) := by
  split
  · exact h
  · exact refl t

/-- Every port event but an operation and a mode change keeps the frame. -/
theorem react (cfg : Config) (asleep : Bool) {e : PortEvent} (hop : ∀ w, e ≠ .op w)
    (hmode : ∀ v, e ≠ .setAsciiMode v) (t : Inst) : t.KeepsFrame (t.react cfg asleep e) := by
  cases e with
  | op w => exact absurd rfl (hop w)
  | setAsciiMode v => exact absurd rfl (hmode v)
  | rxPush b => exact rxPush cfg b t
  | rxResume => exact rxResume cfg t
  | clear => exact ⟨rfl, rfl, id⟩
  | start => exact start t
  | cfgWrite v => exact cfgWrite v t
  | setSessionPerm v => exact ⟨rfl, rfl, id⟩
  | handlerRsp call r => exact (handlerReturn cfg r t).ite _
  | asciiRsp call r => exact (asciiReturn r t).ite _
  | txAccept => exact (txByte t).ite _

end Inst.KeepsFrame

/-! ### The shape of BUF -/

namespace Inst.BinaryBuf

variable {cfg : Config} {t u : Inst}

theorem of_nil (h : t.buf = []) : t.BinaryBuf cfg := fun _ _ => .inl h

theorem of_ascii (h : t.asciiMode = true) : t.BinaryBuf cfg := fun hbin _ => by rw [h] at hbin; cases hbin

theorem of_raise (f : Fault) : (t.raise f).BinaryBuf cfg :=
  fun _ hf => absurd hf (Faults.add_ne_empty f t.faults)

theorem keepsFrame (h : t.BinaryBuf cfg) (hk : t.KeepsFrame u) : u.BinaryBuf cfg := by
  intro hbin hf
  rw [hk.buf]
  exact h (hk.asciiMode ▸ hbin) (hk.faults hf)

/-- Steps 5a to 8 clear BUF or fault. -/
theorem checkAndRun (cfg : Config) (F : Frame) (t : Inst) : (t.checkAndRun cfg F).BinaryBuf cfg := by
  rcases t.checkAndRun_cases cfg F with ⟨-, -, h⟩ | ⟨-, -, h⟩ | ⟨-, i, p, -, h⟩
  · exact h ▸ of_nil rfl
  · exact h ▸ of_nil rfl
  · rcases t.gate_cases cfg F i p with ⟨-, hg⟩ | ⟨-, -, hg⟩ | ⟨-, -, hg⟩ <;> rw [h, hg]
    · exact of_raise .badPerm
    · exact of_nil rfl
    · exact of_nil rfl

/-- An evaluation leaves BUF not empty only as an unfinished frame at an accepted address (R163, R164). -/
theorem evaluate (cfg : Config) (asleep : Bool) {a : Byte} {rest : List Byte} (hbuf : t.buf = a :: rest) :
    (t.evaluate cfg asleep).BinaryBuf cfg := by
  rcases t.evaluate_cases cfg asleep with ⟨-, h⟩ | ⟨-, hascii, -, h⟩ | ⟨-, hascii, -, h⟩ | ⟨-, -, h⟩ <;> rw [h]
  · exact of_nil rfl
  · exact of_ascii hascii
  · exact of_ascii hascii
  · rcases t.evaluateBinary_cases cfg hbuf with ⟨-, hb⟩ | ⟨hmine, hshort, hb⟩ | ⟨-, F, -, -, -, -, hb⟩ <;> rw [hb]
    · exact of_nil rfl
    · exact fun _ _ => .inr ⟨⟨a, rest, hbuf, hmine⟩, hshort⟩
    · exact checkAndRun cfg F _

/-- OP_BYTE overflows, or evaluates a BUF that is not empty (R113, R115). -/
theorem opByte (cfg : Config) (asleep : Bool) (b : Byte) (t : Inst) : (t.opByte cfg asleep b).BinaryBuf cfg := by
  rcases t.opByte_cases cfg asleep b with ⟨-, h⟩ | ⟨-, h⟩ <;> rw [h]
  · exact of_nil rfl
  · obtain ⟨a, rest, hbuf⟩ := List.exists_cons_of_ne_nil (l := t.buf ++ [b]) (by simp)
    exact evaluate cfg asleep hbuf

/-- An offered operation word: nothing, or an operation by its kind. -/
theorem takeOp (h : t.BinaryBuf cfg) (asleep : Bool) (w : BitVec 10) : (t.takeOp cfg asleep w).BinaryBuf cfg := by
  rcases t.takeOp_cases cfg asleep w with
    ⟨-, heq⟩ | ⟨-, ⟨b, rest, -, -, heq⟩ | ⟨-, -, heq⟩ | ⟨-, -, heq⟩ | ⟨-, heq⟩⟩ <;> rw [heq]
  · exact h
  · exact opByte cfg asleep b _
  · exact of_nil rfl
  · exact of_nil rfl
  · exact of_raise .illegalOp

/-- Every port event but a mode change keeps the shape (R265). -/
theorem react (h : t.BinaryBuf cfg) (asleep : Bool) {e : PortEvent} (hmode : ∀ v, e ≠ .setAsciiMode v) :
    (t.react cfg asleep e).BinaryBuf cfg := by
  by_cases hop : ∃ w, e = .op w
  · obtain ⟨w, rfl⟩ := hop
    exact h.takeOp asleep w
  · exact h.keepsFrame (.react cfg asleep (not_exists.mp hop) hmode t)

end Inst.BinaryBuf

/-- Settles O48: a reset empties BUF, and every port event but a mode change keeps its shape. -/
theorem binaryBufNeverHoldsACompleteFrame : Obligations.BinaryBufNeverHoldsACompleteFrame := by
  intro s t hbuf hmode hs c
  rw [step_cfg hs]
  obtain ⟨-, ⟨-, rfl⟩ | ⟨e, rest, hn, -⟩⟩ := step_next_cases hs
  · exact hbuf c
  · rcases step_inst_cases hn hs c with ⟨-, h⟩ | ⟨p, rfl, h⟩ | h <;> rw [h]
    · exact .of_nil rfl
    · exact (hbuf c).react s.sysAsleep fun v hv => hmode c v rest (by rw [hn.2, hv])
    · exact hbuf c

end Sys2Proof.Machine
end

section
/-! SUPPORT. The responses (43_response_framing R200-R206): the bytes of a RESP are a frame, a response goes to
TX with its CRC, and TX takes it byte by byte. -/

namespace Sys2Proof.Machine

/-! ### The bytes of a RESP (R203, R204) -/

/-- The frame that a RESP is: function code and data as given, the block's own CRC last. -/
def respFrame (p : CrcParams) (a f : Byte) (d : List Byte) : Frame := ⟨a, f, d, crc8 p (encodeResp a f d)⟩

/-- A RESP has the layout of a request frame, so what holds of a frame's bytes holds of it (R85). -/
theorem appendCrc_encodeResp (p : CrcParams) (a f : Byte) (d : List Byte) :
    appendCrc p (encodeResp a f d) = (respFrame p a f d).bytes := rfl

theorem respFrame_crcOk (p : CrcParams) (a f : Byte) (d : List Byte) : (respFrame p a f d).crcOk p = true :=
  beq_self_eq_true (crc8 p (encodeResp a f d))

/-- The data of a frame are the bytes from the fourth on, as many as its length byte says (R82). -/
theorem Frame.data_of_bytes {F : Frame} (hd : F.data.length ≤ 255) :
    (F.bytes.drop 3).take (lenByte F.data).toNat = F.data := by
  rw [lenByte_toNat hd]
  exact List.take_left

/-- Settles O12: the response is the bytes of a frame. -/
theorem respRoundTrip : Obligations.RespRoundTrip := by
  intro p a f d hd F
  have hF : F = (respFrame p a f d).bytes := appendCrc_encodeResp p a f d
  rw [hF]
  exact ⟨codecBinary_bytes hd, fun _ => codecBinary_take_bytes hd, rfl,
    ⟨lenByte d, Frame.bytes_getElem?_two _, Frame.data_of_bytes (F := respFrame p a f d) hd⟩,
    ⟨_, parseFrame_bytes _ hd, respFrame_crcOk p a f d⟩⟩

/-! ### The hand-off to TX (R177) -/

/-- A handler's return that TX can hold goes there with its CRC (R176, R177). -/
theorem State.answer_of_fits {s : State} {r : List Byte} (hne : r ≠ []) (hfits : r.length ≤ rspMax) :
    s.answer r = s.setAct { s.act with
      rsp := r ++ [crc8 s.cfg.crc r], rspPos := 0, dispOutcome := .doneResponse, phase := .txDrain } := by
  rw [State.answer, Inst.handlerReturn_of_fits hne hfits, appendCrc]

theorem exec_rspResp_of_long (a f : Byte) {d : List Byte} (hd : 255 < d.length) (s : State) :
    exec (.rspResp a f d) s = .refused .notEncodable := if_neg hd.not_ge

/-- RSP_MAX leaves room for the header and 255 data bytes (R176). -/
theorem encodeResp_length_le (a f : Byte) {d : List Byte} (hd : d.length ≤ 255) :
    (encodeResp a f d).length ≤ rspMax := by
  simp only [encodeResp, List.length_cons, rspMax]
  omega

/-- Settles O31: each shape runs as a handler's return of its bytes, which are never none and fit. -/
theorem responsesAreFramedAndSent : Obligations.ResponsesAreFramedAndSent := by
  intro s a f e d sent
  refine ⟨?_, ?_, fun hd => ?_, fun hd => exec_rspResp_of_long a f hd s⟩
  · have hack : exec (.rspAck a f) s = .next (s.answer [a, f, 0x01, 0x00]) := rfl
    rw [hack, State.answer_of_fits (by simp) (by simp [rspMax])]
  · have hnack : exec (.rspNack a f e) s = .next (s.answer [a, f, 0x02, 0x00, e]) := rfl
    rw [hnack, State.answer_of_fits (by simp) (by simp [rspMax])]
  · rw [exec_rspResp a f hd, State.answer_of_fits (by simp [encodeResp]) (encodeResp_length_le a f hd)]
    rfl

/-! ### One TX acceptance (R206) -/

namespace Inst

variable {b : Byte} {t : Inst}

theorem txByte_of_last (hb : t.rsp[t.rspPos]? = some b) (hlast : t.rspPos + 1 = t.rsp.length) :
    t.txByte = { t with tx := t.tx ++ [b], rsp := [], rspPos := 0, phase := .recv } := by
  simp only [txByte, hb, if_pos hlast]

theorem txByte_of_more (hb : t.rsp[t.rspPos]? = some b) (hmore : t.rspPos + 1 ≠ t.rsp.length) :
    t.txByte = { t with tx := t.tx ++ [b], rspPos := t.rspPos + 1 } := by
  simp only [txByte, hb, if_neg hmore]

end Inst

/-- The step of an acceptance that the channel waits for. -/
theorem step_txAccept {s : State} {c : Chan} {rest : List Event} (hn : s.NextEvent (.port c .txAccept) rest)
    (haw : (s.inst c).awaitsTx = true) :
    step s = .next ((s.during c rest).setAct (s.inst c).txByte) := by
  rw [step_port hn, Inst.react, if_pos haw]

/-- Settles O34: an awaited acceptance by whether RSP has a byte left after it; any other changes nothing. -/
theorem transmitStep : Obligations.TransmitStep := by
  intro s c b rest hn t now
  refine ⟨fun hphase hfaults hb => ?_, fun hidle => ?_⟩
  · rw [step_txAccept hn ((t.awaitsTx_iff).mpr ⟨hphase, hfaults⟩)]
    exact ⟨fun hlast => by rw [Inst.txByte_of_last hb hlast], fun hmore => by rw [Inst.txByte_of_more hb hmore]⟩
  · rw [← t.awaitsTx_iff] at hidle
    exact step_port_of_react_eq hn (if_neg hidle)

/-! ### A whole response (R67, R206) -/

/-- The channel once TX has taken all that is left of RSP. -/
def Inst.drained (t : Inst) : Inst :=
  { t with tx := t.tx ++ t.rsp.drop t.rspPos, rsp := [], rspPos := 0, phase := .recv }

theorem Inst.txByte_eq_drained {t : Inst} (hlast : t.rspPos + 1 = t.rsp.length) : t.txByte = t.drained := by
  have hlt : t.rspPos < t.rsp.length := by omega
  rw [Inst.txByte_of_last (List.getElem?_eq_getElem hlt) hlast, Inst.drained, List.drop_eq_getElem_cons hlt, hlast,
    List.drop_length]

/-- A byte sent first and the rest after it are the bytes sent in order. -/
theorem Inst.txByte_drained {t : Inst} (hmore : t.rspPos + 1 < t.rsp.length) : t.txByte.drained = t.drained := by
  have hlt : t.rspPos < t.rsp.length := by omega
  rw [Inst.txByte_of_more (List.getElem?_eq_getElem hlt) hmore.ne]
  simp only [Inst.drained, List.append_assoc, List.singleton_append, List.getElem_cons_drop]

/-- The events that take the next `n` bytes: a TX acceptance for each. -/
def acceptEvents (c : Chan) (n : Nat) (rest : List Event) : List Event :=
  List.replicate n (.port c .txAccept) ++ rest

/-- The channel while a response goes out: `n` bytes of RSP are left, and a TX acceptance is to come for each. -/
structure State.Transmitting (s : State) (c : Chan) (n : Nat) (rest : List Event) : Prop where
  config : s.cfg.wf = true
  phase : (s.inst c).phase = .txDrain
  faults : (s.inst c).faults = Faults.empty
  left : (s.inst c).rspPos + n = (s.inst c).rsp.length
  inputs : s.inputs = acceptEvents c n rest

namespace State.Transmitting

variable {s : State} {c : Chan} {n : Nat} {rest : List Event}

/-- The next acceptance is awaited, so its step sends a byte (R206). -/
theorem step_eq (h : s.Transmitting c (n + 1) rest) :
    step s = .next ((s.during c (acceptEvents c n rest)).setAct (s.inst c).txByte) :=
  step_txAccept ⟨h.config, h.inputs⟩ ((Inst.awaitsTx_iff _).mpr ⟨h.phase, h.faults⟩)

theorem more (h : s.Transmitting c (n + 2) rest) : (s.inst c).rspPos + 1 < (s.inst c).rsp.length := by
  have hleft := h.left
  omega

/-- After any byte but the last the response goes on going out. -/
theorem next (h : s.Transmitting c (n + 2) rest) :
    ((s.during c (acceptEvents c (n + 1) rest)).setAct (s.inst c).txByte).Transmitting c (n + 1) rest := by
  have hbyte := Inst.txByte_of_more (List.getElem?_eq_getElem (Nat.lt_of_succ_lt h.more)) h.more.ne
  constructor
  case config => rw [State.setAct_cfg]; exact h.config
  case phase => rw [State.inst_during_setAct, hbyte]; exact h.phase
  case faults => rw [State.inst_during_setAct, hbyte]; exact h.faults
  case left => rw [State.inst_during_setAct, hbyte]; exact (Nat.add_right_comm _ 1 (n + 1)).trans h.left
  case inputs => rw [State.setAct_inputs]; rfl

/-- As many steps as there are bytes left send them all. -/
theorem run (h : s.Transmitting c (n + 1) rest) :
    core.run (n + 1) s = .next ((s.during c rest).setAct (s.inst c).drained) := by
  induction n generalizing s with
  | zero => rw [run_one, h.step_eq, Inst.txByte_eq_drained h.left]; rfl
  | succ n ih =>
    rw [run_succ h.step_eq, ih h.next, State.inst_during_setAct, State.setAct_during_setAct,
      Inst.txByte_drained h.more]

end State.Transmitting

/-- Settles O35: one TX acceptance after the other until RSP is through. -/
theorem wholeResponseIsTransmitted : Obligations.WholeResponseIsTransmitted := by
  intro s c rest hwf hphase hfaults hpos k hinputs
  obtain ⟨n, hk⟩ : ∃ n, k = n + 1 := Nat.exists_eq_succ_of_ne_zero (Nat.sub_ne_zero_of_lt hpos)
  have htx : s.Transmitting c k rest := ⟨hwf, hphase, hfaults, Nat.add_sub_of_le hpos.le, hinputs⟩
  rw [hk] at htx ⊢
  exact htx.run

end Sys2Proof.Machine
end

section
/-! SUPPORT. The two channels side by side (60_exceptions R233, R236): a step as a function of one channel,
the parameters and SYS_ASLEEP alone, and what an event can still do to a faulted channel. -/

namespace Sys2Proof.Machine

/-! ### No signal passes between the channels (R236) -/

/-- What an event does to the channel `c`, whose state is `t`; the other channel is no argument. -/
def Inst.receive (cfg : Config) (asleep : Bool) (c : Chan) (e : Event) (t : Inst) : Inst :=
  match e with
  | .reset => t.doReset cfg
  | .setAsleep _ => t
  | .port d p => if c = d then t.react cfg asleep p else t

/-- SYS_ASLEEP after an event, from its level before (R35). -/
def Event.asleepAfter (asleep : Bool) : Event → Bool
  | .setAsleep v => v
  | _ => asleep

/-- A step does to each channel what `receive` says: both are read off the step's own equation. -/
theorem step_inst_eq_receive {s t : State} {e : Event} {rest : List Event} (hn : s.NextEvent e rest)
    (hs : step s = .next t) (c : Chan) :
    t.inst c = (s.inst c).receive s.cfg s.sysAsleep c e := by
  cases e with
  | reset =>
    rw [step_reset hn] at hs
    cases hs
    rw [State.inst_doReset, State.inst_inputs]
    rfl
  | setAsleep v =>
    rw [step_setAsleep hn] at hs
    cases hs
    cases c <;> rfl
  | port d p =>
    rw [step_port hn] at hs
    cases hs
    rw [State.inst_setAct, State.during_inst, State.during_active, Inst.receive]
    by_cases hcd : c = d
    · rw [if_pos hcd, if_pos hcd, hcd]
    · rw [if_neg hcd, if_neg hcd]

theorem step_sysAsleep_eq_asleepAfter {s t : State} {e : Event} {rest : List Event} (hn : s.NextEvent e rest)
    (hs : step s = .next t) : t.sysAsleep = e.asleepAfter s.sysAsleep := by
  cases e with
  | reset => rw [step_reset hn] at hs; cases hs; rfl
  | setAsleep v => rw [step_setAsleep hn] at hs; cases hs; rfl
  | port d p => rw [step_port hn] at hs; cases hs; exact State.setAct_sysAsleep _ _

/-- Settles O51: the step writes the channel of the event and drops the event, and nothing else. -/
theorem otherInstanceIsUntouched : Obligations.OtherInstanceIsUntouched := by
  intro s t c e rest hn hs
  rw [step_port hn] at hs
  cases hs
  refine ⟨fun d hd => ?_, State.setAct_sysAsleep _ _, State.setAct_inputs _ _⟩
  rw [State.inst_setAct_ne _ _ hd, State.during_inst]

/-- Settles O52: the step is a function of the parameters, SYS_ASLEEP and the channel, which agree. -/
theorem instanceDoesNotDependOnTheOther : Obligations.InstanceDoesNotDependOnTheOther := by
  intro s s' t t' c e rest rest' hn hn' hcfg hasleep hinst hs hs'
  constructor
  · rw [step_inst_eq_receive hn hs c, step_inst_eq_receive hn' hs' c, hcfg, hasleep, hinst]
  · rw [step_sysAsleep_eq_asleepAfter hn hs, step_sysAsleep_eq_asleepAfter hn' hs', hasleep]

/-! ### A faulted channel (R233, R29) -/

/-- `u` is `t` but for what the RX producer, the clear port and the levels write, and no byte has left RXQ. -/
structure Inst.Halted (t u : Inst) : Prop where
  kept : u = { t with rxq := u.rxq, held := u.held, clearReqs := u.clearReqs,
                      asciiMode := u.asciiMode, sessionPerm := u.sessionPerm }
  queued : ∃ pushed, u.rxq = t.rxq ++ pushed

namespace Inst

variable {t u : Inst}

theorem queued_of_rxq_eq (h : u.rxq = t.rxq) : ∃ pushed, u.rxq = t.rxq ++ pushed :=
  ⟨[], by rw [h, List.append_nil]⟩

theorem Halted.of_eq (h : u = t) : t.Halted u := by
  subst h
  exact ⟨rfl, queued_of_rxq_eq rfl⟩

/-- rx_push still enqueues, is dropped or waits, whatever FAULTS is (R110). -/
theorem rxPush_halted (cfg : Config) (b : Byte) (t : Inst) : t.Halted (t.rxPush cfg b) := by
  rcases t.rxPush_cases cfg b with ⟨-, h⟩ | ⟨-, -, h⟩ | ⟨-, -, h⟩
  · rw [h]; exact ⟨rfl, [b], rfl⟩
  · exact .of_eq h
  · rw [h]; exact ⟨rfl, queued_of_rxq_eq rfl⟩

theorem rxResume_halted (cfg : Config) (t : Inst) : t.Halted (t.rxResume cfg) := by
  rcases t.rxResume_cases cfg with ⟨-, h⟩ | ⟨b, _, -, -, h⟩
  · exact .of_eq h
  · rw [h]; exact ⟨rfl, [b], rfl⟩

theorem enabled_of_faulted (hf : t.faults ≠ Faults.empty) : t.enabled = false :=
  enabled_eq_false_iff.mpr fun ⟨_, _, hempty⟩ => hf hempty

theorem not_awaitsHandler_of_faulted (hf : t.faults ≠ Faults.empty) (call : Nat) :
    ¬ t.awaitsHandler call = true :=
  fun haw =>
    have ⟨_, hempty, _⟩ := (t.awaitsHandler_iff call).mp haw
    hf hempty

theorem not_awaitsAscii_of_faulted (hf : t.faults ≠ Faults.empty) (call : Nat) :
    ¬ t.awaitsAscii call = true :=
  fun haw =>
    have ⟨_, hempty, _⟩ := (t.awaitsAscii_iff call).mp haw
    hf hempty

theorem not_awaitsTx_of_faulted (hf : t.faults ≠ Faults.empty) : ¬ t.awaitsTx = true :=
  fun haw => hf (t.awaitsTx_iff.mp haw).2

/-- Every step that FAULTS gates is closed to a faulted channel; a push, a clear request and a level write
only the elements that `Halted` excepts. -/
theorem react_halted_of_faulted (hf : t.faults ≠ Faults.empty) (cfg : Config) (asleep : Bool) (e : PortEvent) :
    t.Halted (t.react cfg asleep e) := by
  cases e with
  | rxPush b => exact t.rxPush_halted cfg b
  | rxResume => exact t.rxResume_halted cfg
  | op w =>
    have hclosed : t.selectOp w = none := selectOp_of_not_enabled (enabled_of_faulted hf) w
    exact .of_eq (takeOp_of_selectOp_none hclosed cfg asleep)
  | clear => exact ⟨rfl, queued_of_rxq_eq rfl⟩
  | start => exact .of_eq (if_neg hf)
  | cfgWrite v => exact .of_eq (if_neg hf)
  | setAsciiMode v => exact ⟨rfl, queued_of_rxq_eq rfl⟩
  | setSessionPerm v => exact ⟨rfl, queued_of_rxq_eq rfl⟩
  | handlerRsp call r => exact .of_eq (if_neg (not_awaitsHandler_of_faulted hf call))
  | asciiRsp call r => exact .of_eq (if_neg (not_awaitsAscii_of_faulted hf call))
  | txAccept => exact .of_eq (if_neg (not_awaitsTx_of_faulted hf))

end Inst

/-- Settles O55: but for a reset, a step is an event at the channel's own ports, or leaves it as it is. -/
theorem faultedInstanceTakesNoStep : Obligations.FaultedInstanceTakesNoStep := by
  intro s t e rest c hn hs hreset hf
  have hhalted : (s.inst c).Halted (t.inst c) := by
    rcases step_inst_cases hn hs c with ⟨he, -⟩ | ⟨p, -, h⟩ | h
    · exact absurd he hreset
    · exact h ▸ Inst.react_halted_of_faulted hf s.cfg s.sysAsleep p
    · exact .of_eq h
  exact ⟨hhalted.kept, hhalted.queued⟩

end Sys2Proof.Machine
end

section
/-! SUPPORT. The reset (70_reset_and_hazards R260): it gives a channel every element of R22 at its initial value,
and the initial channel is what it leaves as it is, so what holds after a reset holds in the initial state. -/

namespace Sys2Proof.Machine

/-! ### One channel -/

/-- A reset makes the channel the initial one, but for its levels and the record of its ports (R260). -/
theorem Inst.doReset_eq_initial_with (cfg : Config) (t : Inst) :
    t.doReset cfg = { Inst.initial cfg with
      asciiMode := t.asciiMode, sessionPerm := t.sessionPerm, tx := t.tx,
      live := t.live, handlerReqs := t.handlerReqs, asciiReqs := t.asciiReqs } := rfl

@[simp] theorem Inst.doReset_initial (cfg : Config) : (Inst.initial cfg).doReset cfg = Inst.initial cfg := rfl

theorem Inst.initial_inv (cfg : Config) : (Inst.initial cfg).Inv cfg := by
  rw [← Inst.doReset_initial]
  exact (Inst.initial cfg).doReset_inv cfg

theorem Inst.initial_binaryBuf (cfg : Config) : (Inst.initial cfg).BinaryBuf cfg := .of_nil rfl

/-! ### The machine -/

@[simp] theorem State.inst_initial (cfg : Config) (c : Chan) : (State.initial cfg).inst c = Inst.initial cfg := by
  cases c <;> rfl

theorem State.initial_inv (cfg : Config) : (State.initial cfg).Inv := by
  intro c
  rw [State.inst_initial]
  exact Inst.initial_inv cfg

theorem State.initial_binaryBuf (cfg : Config) : (State.initial cfg).BinaryBuf := by
  intro c
  rw [State.inst_initial]
  exact Inst.initial_binaryBuf cfg

/-- Settles O47: both instances start as after a reset, with BUF empty, whatever the parameters are. -/
theorem invariantHoldsAfterReset : Obligations.InvariantHoldsAfterReset :=
  ⟨State.initial_inv _, State.initial_binaryBuf _, fun cfg => ⟨State.initial_inv cfg, State.initial_binaryBuf cfg⟩⟩

/-- Settles O53: the step resets each channel, and keeps all else but the event it consumes. -/
theorem resetSetsEveryElement : Obligations.ResetSetsEveryElement := by
  intro s rest hn
  refine ⟨_, step_reset hn, State.doReset_cfg _, State.doReset_sysAsleep _, State.doReset_inputs _, fun c => ?_⟩
  rw [State.inst_doReset, State.inst_inputs]
  exact Inst.doReset_eq_initial_with s.cfg (s.inst c)

end Sys2Proof.Machine
end
